-- ==== Sys2Proof/Word.lean ====
section
/-!
DEFINITION. The plain data the block is written with: bytes, stride phases, floor division and clamps (R1, R2), and the
fixed families of like things (four legs, three joints).
-/

namespace Sys2Proof

/-- One byte of a link frame or of a ring slot. -/
abbrev Byte := BitVec 8

/-- A stride phase: one stride is 65536 phase units, and phase arithmetic is modulo 65536 (R1). -/
abbrev Phase := BitVec 16

/-- The forward distance from phase `a` to phase `b`: how far a phase must advance to reach `b` from `a` (R1). -/
def fwd (a b : Phase) : Nat := (b - a).toNat

/-- Every division of the bridge is floor division, rounded toward minus infinity (R2). -/
def floorDiv (a b : Int) : Int := Int.fdiv a b

/-- `clamp(x, lo, hi)` of R2's conventions, on integers. -/
def clampI (x lo hi : Int) : Int := if x < lo then lo else if hi < x then hi else x

/-- `clamp(x, lo, hi)` on unsigned values. -/
def clampN (x lo hi : Nat) : Nat := if x < lo then lo else if hi < x then hi else x

/-- A count that saturates at `top` rises by one (the conventions on time of chapter 0). -/
def satSucc (x top : Nat) : Nat := if x < top then x + 1 else top

/-- `x` brought toward `target` by `step`, or to the target if that is nearer (R26, R27). -/
def stepToward (x target step : Nat) : Nat :=
  if x < target then (if x + step < target then x + step else target)
  else (if target + step < x then x - step else target)

/-- The four legs, in the order in which every chapter lists them. -/
inductive LegId where
  | lf | rf | lh | rh
deriving DecidableEq, Repr

/-- The three joints of a leg: hip abduction, hip flexion, knee. -/
inductive JointId where
  | ab | hf | kn
deriving DecidableEq, Repr

/-- The number of a leg, 0 to 3. -/
def LegId.num : LegId → Nat
  | .lf => 0 | .rf => 1 | .lh => 2 | .rh => 3

/-- The leg of a number; none above 3. -/
def LegId.ofNum : Nat → Option LegId
  | 0 => some .lf | 1 => some .rf | 2 => some .lh | 3 => some .rh | _ => none

/-- The four legs in order. -/
def LegId.all : List LegId := [.lf, .rf, .lh, .rh]

/-- LF and RF are the front legs. -/
def LegId.isFront : LegId → Bool
  | .lf | .rf => true
  | .lh | .rh => false

/-- LF and LH are the left legs. -/
def LegId.isLeft : LegId → Bool
  | .lf | .lh => true
  | .rf | .rh => false

/-- The three joints in order. -/
def JointId.all : List JointId := [.ab, .hf, .kn]

/-- One value for each leg. -/
structure PerLeg (α : Type) where
  lf : α
  rf : α
  lh : α
  rh : α
deriving DecidableEq, Repr

/-- One value for each joint of a leg. -/
structure PerJoint (α : Type) where
  ab : α
  hf : α
  kn : α
deriving DecidableEq, Repr

namespace PerLeg
variable {α β : Type}

/-- The value of one leg. -/
def get (v : PerLeg α) : LegId → α
  | .lf => v.lf | .rf => v.rf | .lh => v.lh | .rh => v.rh

/-- One leg's value replaced. -/
def set (v : PerLeg α) (l : LegId) (x : α) : PerLeg α :=
  match l with
  | .lf => { v with lf := x }
  | .rf => { v with rf := x }
  | .lh => { v with lh := x }
  | .rh => { v with rh := x }

/-- The same value for every leg. -/
def all (x : α) : PerLeg α := ⟨x, x, x, x⟩

/-- A value for each leg, worked out from the leg. -/
def ofFn (f : LegId → α) : PerLeg α := ⟨f .lf, f .rf, f .lh, f .rh⟩

/-- The four values in leg order. -/
def toList (v : PerLeg α) : List α := [v.lf, v.rf, v.lh, v.rh]

@[simp] theorem get_ofFn (f : LegId → α) (l : LegId) : (ofFn f).get l = f l := by cases l <;> rfl
@[simp] theorem get_all (x : α) (l : LegId) : (all x).get l = x := by cases l <;> rfl
@[simp] theorem get_set_same (v : PerLeg α) (l : LegId) (x : α) : (v.set l x).get l = x := by cases l <;> rfl

theorem get_set (v : PerLeg α) (l m : LegId) (x : α) :
    (v.set l x).get m = if m = l then x else v.get m := by
  cases l <;> cases m <;> rfl

theorem get_set_ne (v : PerLeg α) {l m : LegId} (x : α) (h : m ≠ l) : (v.set l x).get m = v.get m := by
  simp [get_set, h]

theorem ext_get {v w : PerLeg α} (h : ∀ l, v.get l = w.get l) : v = w := by
  cases v; cases w
  have h1 := h .lf; have h2 := h .rf; have h3 := h .lh; have h4 := h .rh
  simp only [get] at h1 h2 h3 h4
  simp [h1, h2, h3, h4]

end PerLeg

namespace PerJoint
variable {α β : Type}

/-- The value of one joint. -/
def get (v : PerJoint α) : JointId → α
  | .ab => v.ab | .hf => v.hf | .kn => v.kn

/-- The same value for every joint. -/
def all (x : α) : PerJoint α := ⟨x, x, x⟩

/-- A value for each joint, worked out from the joint. -/
def ofFn (f : JointId → α) : PerJoint α := ⟨f .ab, f .hf, f .kn⟩

/-- The three values in joint order. -/
def toList (v : PerJoint α) : List α := [v.ab, v.hf, v.kn]

@[simp] theorem get_ofFn (f : JointId → α) (j : JointId) : (ofFn f).get j = f j := by cases j <;> rfl
@[simp] theorem get_all (x : α) (j : JointId) : (all x).get j = x := by cases j <;> rfl

end PerJoint

end Sys2Proof
end

