-- ==== Sys2Proof/Syntax.lean ====
section
/-!
DEFINITION. The commands of the block: one constructor for each row of spec/opcode_table.json, with the operands the row takes
from outside. A row whose work is to take something another block has made (a raise, a report, a slot of a sweep return)
takes it from the state and names at most which one (log 1).
-/

namespace Sys2Proof

/-- A sweep as it travels on the joint ring (R194): the header's tag, the eighty bytes of the five slots for ring positions
1 to 5 in order, and the ring CRC. The start byte 0xC3 is the same in every sweep and is not held. DESIGN CHOICE (log 44): a
return whose start byte is another cannot be given, and counts as nothing coming back. -/
structure RingFrame where
  tag   : Byte
  slots : List Byte
  crc   : BitVec 16
deriving DecidableEq, Repr

/-- The hard entries that ask the supervisor for SAFE when they finish (R116): the crouch of FALL, and the hold of a
DRIVE-FAULT. (A RING-LOSS entry asks at the moment it becomes top, within the taking.) -/
inductive SafeCause where
  | fallCrouch
  | driveFaultHold (leg : LegId)
deriving DecidableEq, Repr

/-- The commands, in the order of the opcode table. -/
inductive Instr where
  /-- POWER_ON: the release of the reset pin. -/
  | powerOn
  /-- SWEEP_ISSUE: the sweep timer expires. -/
  | sweepIssue
  /-- RING_RETURN: something comes back from the ring. -/
  | ringReturn (f : RingFrame)
  /-- STALE_LIMIT: the supervisor takes the report that a leg has reached the stale limit; `raiseFirst` says whether the
  arbiter takes the DRIVE-FAULT raise before the test of R156 (R100 leaves the order open). -/
  | staleLimit (leg : LegId) (raiseFirst : Bool)
  /-- RING_LOSS: the loss that takes the ring DOWN, by the timer's expiry (none) or by a return with a bad CRC. -/
  | ringLoss (ret : Option RingFrame)
  /-- RING_RESTORED: the good return that restores the ring. -/
  | ringRestored (f : RingFrame)
  /-- LEG_RECORD: the contact monitor takes a leg slot. -/
  | legRecord (leg : LegId)
  /-- CONTACT_CHANGE: a leg slot whose classification changes the leg's contact. -/
  | contactChange (leg : LegId)
  /-- SLIP: a leg slot at which SLIP is raised. -/
  | slip (leg : LegId)
  /-- OVERTORQUE: a leg slot at which OVERTORQUE is raised. -/
  | overtorque (leg : LegId)
  /-- BASELINE_STALE: a leg slot whose ageing raises BASELINE-STALE. -/
  | baselineStale (leg : LegId)
  /-- BASELINE_CAPTURE: a leg slot that brings a capture's fourth sample. -/
  | baselineCapture (leg : LegId)
  /-- ADVANCE_REPORT: the contact monitor and the reflex action unit take the report of an advance. -/
  | advanceReport
  /-- BODY_RECORD: the balance unit takes a body slot. -/
  | bodyRecord
  /-- BODY_BLIND: a body slot at which the unit becomes blind. -/
  | bodyBlind
  /-- RELEVEL_COMPLETE: a body slot that brings a relevel capture's sixteenth record. -/
  | relevelComplete
  /-- DRIVE_STATUS: the supervisor takes the drive status of a leg record; `raiseFirst` as for STALE_LIMIT. -/
  | driveStatus (leg : LegId) (raiseFirst : Bool)
  /-- ADVANCE: the phase engine takes a sweep return. -/
  | advance
  /-- LINK_LOSS: a sweep return at which the phase engine raises LINK-LOSS. -/
  | linkLoss
  /-- COMPOSITION: the joint shaper composes on a phase update. -/
  | composition
  /-- REFLEX_STEP: the reflex action unit takes a sweep return. -/
  | reflexStep
  /-- HOLD_COMPLETE: a sweep return that finishes a HOLD. -/
  | holdComplete
  /-- RETRACT_COMPLETE: a sweep return that finishes a RETRACT. -/
  | retractComplete
  /-- PLANT_FAILED: a sweep return at which a PLANT's reach reaches its limit. -/
  | plantFailed
  /-- CROUCH_COMPLETE: a sweep return that brings the blend weight to 256. -/
  | crouchComplete
  /-- RAISE: the arbiter takes the oldest waiting raise of a line. -/
  | raise (line : Nat)
  /-- POP: the arbiter takes the report that the top entry has finished. -/
  | pop
  /-- WALK_REQUEST: the supervisor takes a walk request. -/
  | walkRequest
  /-- STOP_REQUEST: the supervisor takes a stop request. -/
  | stopRequest
  /-- ALL_PARKED: the supervisor takes the report that every playing leg is parked. -/
  | allParked
  /-- SAFE_REQUEST: the supervisor takes a SAFE request of a finished hard entry. -/
  | safeRequest (cause : SafeCause)
  /-- QUIESCE_EXPIRY: the quiesce count stands at its limit. -/
  | quiesceExpiry
  /-- STRIDE_FRAME: an arrived stride frame is received and judged. -/
  | strideFrame
  /-- FRAME_DROPPED: an arrived frame is dropped. -/
  | frameDropped
  /-- SETUP_FRAME: an arrived setup or query frame goes to the inbox. -/
  | setupFrame
  /-- SETUP_TAKE: the setup processor takes the inbox's head. -/
  | setupTake
  | openBank
  | writePart
  | defineGait
  | undefineGait
  | setLimits
  | setGains
  | setBands
  | setContact
  | setReflex
  | setArbiter
  | setTilt
  | setLegMode
  | setLegMap
  | setRing
  | setWalk
  | setStatus
  | release
  | relevel
  | resume
  | reset
  | clearPending
  | readBank
  | readPart
  | readGait
  | readTable
  | readLeg
  | identify
  /-- STATUS_IMAGE: the link takes a sweep return for its status count. -/
  | statusImage
  /-- TRANSMIT_START: the idle transmitter begins the next frame. -/
  | transmitStart
  /-- FRAME_SENT: the frame being sent has been sent in full. -/
  | frameSent
  /-- LINK_RESET: the receive line has been low for 100 µs. -/
  | linkReset
  /-- BYTE_RECEIVED: a byte arrives from the planner; `stopBit` is false for a framing error. -/
  | byteReceived (b : Byte) (stopBit : Bool)
  /-- NOT_WELL_FORMED: the processor completes a frame that is not well formed. -/
  | notWellFormed
deriving DecidableEq, Repr

end Sys2Proof
end

