-- ==== Sys2Proof/Config.lean ====
section
/-!
DEFINITION. The fixed figures of the part, and the values the spec leaves open (each an opaque constant with no body, so that
no proof can see it; each named in a log entry).
-/

namespace Sys2Proof.Config

/-- Banks of profile memory (chapter 1). -/
def banks : Nat := 64
/-- Entries of the gait table (chapter 1). -/
def gaitEntries : Nat := 16
/-- The setup inbox holds 4 frames (R163). -/
def inboxSize : Nat := 4
/-- Replies and the reserved entry together are at most 8 (R163). -/
def replySize : Nat := 8
/-- The alert queue holds 16 entries (R163, R170). -/
def alertSize : Nat := 16
/-- The reflex stack holds 4 entries (R93). -/
def stackSize : Nat := 4
/-- Sweep returns of a DRIVE-FAULT hold (R84). -/
def driveFaultHold : Nat := 20
/-- Good returns that restore the ring (R144). -/
def restoreCount : Nat := 8
/-- Sweep returns after which a pending reset is applied from STOPPING (R159). -/
def quiesceLimit : Nat := 4000
/-- Records of a relevel capture (R70). -/
def relevelRecords : Nat := 16
/-- Samples of a baseline capture (R53). -/
def captureSamples : Nat := 4
/-- The part code that IDENTIFY returns (R184). -/
def partCode : Nat := 412
/-- The revision that IDENTIFY returns (R184). -/
def revision : Nat := 1

/-- DESIGN CHOICE (log 5). The value a LINK-LOSS raise carries: R42 names none. One free value for each raise, drawn by the
counter `State.freeDraws`. -/
opaque linkLossValue : Nat → Int

/-- DESIGN CHOICE (log 6). The number that stands for a drive status of FAULT where a DRIVE-FAULT raise carries the drive
status (R155): the spec gives no number. -/
opaque driveStatusValue : Byte → Int

/-- DESIGN CHOICE (log 7). The detail byte of an alert frame whose kind carries no detail (R169 shows a dash, R190 has a
byte there). -/
opaque absentDetail : Byte

/-- DESIGN CHOICE (log 8). The two bytes that stand where READ-LEG carries the parked phase, for a leg that is not parked
(R183 gives the phase only when parked; R189 gives the data 31 bytes at all times). -/
opaque unparkedPhase : Phase

end Sys2Proof.Config
end

