-- ==== Sys2Proof/Machine/State.lean ====
section
/-!
DEFINITION. The state of the bridge, block by block (plain data), its value after power-on, and the reasons a step can stop.
Each field's docstring names the rule that gives it; INVENTORY.md lists them all.
-/

namespace Sys2Proof.Machine

/-! ## Profile memory and the gait table (chapter 1) -/

/-- Part 0 of a stride profile (R3). -/
structure Header where
  liftoff      : Phase
  touchdown    : Phase
  refresh      : Phase
  /-- the scale mask: for each joint, whether its knots are scaled by the applied amplitude -/
  scale        : PerJoint Bool
  stanceStiff  : Nat
  swingStiff   : Nat
deriving DecidableEq, Repr

/-- A whole profile: the header and 32 knots for each joint (R3). -/
structure Profile where
  header : Header
  knots  : PerJoint (List Int)
deriving DecidableEq, Repr

/-- A bank's state and the parts it holds (chapter 1, bank states). In FILLING the parts-present set is the set of parts held. -/
inductive Bank where
  | empty
  | filling (header : Option Header) (knots : PerJoint (Option (List Int)))
  | ready (p : Profile)
deriving DecidableEq, Repr

/-- A member of a gait entry: a bank and a phase offset. -/
structure Member where
  bank   : Nat
  offset : Phase
deriving DecidableEq, Repr

/-- The kind of a DEFINED gait entry together with its members (R12): a QUAD member per leg, or a member for each of the
roles P, L and D. -/
inductive Gait where
  | quad (m : PerLeg Member)
  | triF (p l d : Member)
  | triH (p l d : Member)
deriving DecidableEq, Repr

/-! ## The phase engine (chapter 2) -/

/-- A play slot (R18). The parked flag is set exactly when a parked phase is present. -/
structure Slot where
  bank   : Nat
  offset : Phase
  mirror : Bool
  phase  : Phase
  swing  : Bool
  parked : Option Phase
deriving DecidableEq, Repr

/-- The stride's direction, +1 or −1 (R22). -/
inductive Direction where
  | forward
  | backward
deriving DecidableEq, Repr

/-- The intent record (R22). -/
structure Intent where
  rateTarget : Nat
  ampTarget  : Nat
  turn       : Int
  direction  : Direction
  stop       : Bool
deriving DecidableEq, Repr

/-- The walk settings (R25). -/
structure WalkSettings where
  rateCeiling   : Nat
  rateFloor     : Nat
  strutCap      : Nat
  rateStep      : Nat
  ampStep       : Nat
  intentTimeout : Nat
deriving DecidableEq, Repr

/-- The phase engine's state. -/
structure Engine where
  /-- the intent record (R22) -/
  intent        : Intent
  /-- the walk settings (R25) -/
  walk          : WalkSettings
  /-- the applied rate r (R26) -/
  rate          : Nat
  /-- the applied amplitude A (R27) -/
  amp           : Nat
  /-- the master phase M (R28) -/
  master        : Phase
  /-- the play slots (R18) -/
  slots         : PerLeg Slot
  /-- the current gait entry (R21) -/
  current       : Nat
  /-- the pending gait entry (R21) -/
  pendingGait   : Option Nat
  /-- the intent age (R41) -/
  intentAge     : Nat
  /-- the hold-off counter (R43) -/
  holdOff       : Nat
  /-- whether the LINK-LOSS raise is armed (R42) -/
  linkLossArmed : Bool
deriving DecidableEq, Repr

/-! ## The contact monitor (chapter 3) -/

/-- The classification of a foot (R44). -/
inductive Contact where
  | unknown
  | loaded
  | unloaded
deriving DecidableEq, Repr

/-- A baseline capture in progress: the samples taken and their sum (R44). -/
structure Capture where
  taken : Nat
  sum   : Nat
deriving DecidableEq, Repr

/-- The contact monitor's record of one leg (R44); an arm is true when armed. -/
structure LegContact where
  contact     : Contact
  onCount     : Nat
  offCount    : Nat
  baseline    : Nat
  age         : Nat
  capture     : Option Capture
  earlyArm    : Bool
  missedArm   : Bool
  unloadArm   : Bool
  staleArm    : Bool
  slipCount   : Nat
  torqueCount : Nat
  slipArm     : Bool
  torqueArm   : Bool
deriving DecidableEq, Repr

/-- The contact settings (R61). -/
structure ContactSettings where
  onThreshold   : Nat
  offThreshold  : Nat
  onCount       : Nat
  offCount      : Nat
  earlyMargin   : Nat
  lateMargin    : Nat
  unloadMargin  : Nat
  slipThreshold : Nat
  slipCount     : Nat
  torqueCount   : Nat
  maxAge        : Nat
deriving DecidableEq, Repr

/-- The contact monitor's state. -/
structure Monitor where
  legs     : PerLeg LegContact
  settings : ContactSettings
deriving DecidableEq, Repr

/-! ## The balance unit (chapter 4) -/

/-- Where the attitude reference came from (R68). -/
inductive RefSource where
  | planner
  | captured
deriving DecidableEq, Repr

/-- A relevel capture in progress: the records taken and the two sums (R64). -/
structure Relevel where
  taken    : Nat
  pitchSum : Int
  rollSum  : Int
deriving DecidableEq, Repr

/-- The five values of one joint in one band (R74). -/
structure Gains where
  kpPitch   : Int
  kdPitch   : Int
  kpRoll    : Int
  kdRoll    : Int
  authority : Nat
deriving DecidableEq, Repr

/-- The four gain bands (R74). -/
structure Bands where
  b0 : PerJoint Gains
  b1 : PerJoint Gains
  b2 : PerJoint Gains
  b3 : PerJoint Gains
deriving DecidableEq, Repr

/-- The balance unit's record (R64) and its settings (R73, R74, R79). -/
structure Balance where
  heldPitch     : Int
  heldRoll      : Int
  heldPitchRate : Int
  heldRollRate  : Int
  unusable      : Nat
  blind         : Bool
  refSource     : RefSource
  refPitch      : Int
  refRoll       : Int
  band          : Fin 4
  relevel       : Option Relevel
  tiltArm       : Bool
  fallArm       : Bool
  /-- the band thresholds t1, t2, t3 (R73) -/
  t1            : Nat
  t2            : Nat
  t3            : Nat
  /-- the four gain bands (R74) -/
  bands         : Bands
  /-- the tilt settings (R79) -/
  tiltWarning   : Nat
  fallLimit     : Nat
deriving DecidableEq, Repr

/-! ## The reflex arbiter and the reflex action unit (chapters 5 and 6) -/

/-- The sources of the reflex lines: eight maskable, three hard (R81). -/
inductive Source where
  | tilt | linkLoss | earlyContact | missedStep | unload | slip | overtorque | baselineStale
  | driveFault | fall | ringLoss
deriving DecidableEq, Repr

/-- What a reflex does: the five maskable actions (R82), CROUCH of FALL and the empty action of RING-LOSS (R84). -/
inductive Action where
  | hold | retract | plant | stop | note | crouch | none
deriving DecidableEq, Repr

/-- The settings of a maskable source (R82). -/
structure SourceSettings where
  enabled   : Bool
  priority  : Nat
  action    : Action
  duration  : Nat
  parameter : Nat
deriving DecidableEq, Repr

/-- The settings of the eight maskable sources (R82). -/
structure Sources where
  tilt          : SourceSettings
  linkLoss      : SourceSettings
  earlyContact  : SourceSettings
  missedStep    : SourceSettings
  unload        : SourceSettings
  slip          : SourceSettings
  overtorque    : SourceSettings
  baselineStale : SourceSettings
deriving DecidableEq, Repr

/-- A stack entry (R86), with the knee contribution and the reach that the reflex action unit keeps for it (R104). -/
structure Entry where
  line         : Nat
  leg          : Option LegId
  priority     : Nat
  action       : Action
  duration     : Nat
  parameter    : Nat
  progress     : Nat
  contribution : Int
  reach        : Nat
deriving DecidableEq, Repr

/-- How a stack entry ended (R92, R95, R96). -/
inductive EndOutcome where
  | complete | failed | shed | abandoned
deriving DecidableEq, Repr

/-- The disposition of a raise (R87). -/
inductive Disposition where
  | ignored | coalesced | disabled | held | pended
deriving DecidableEq, Repr

/-- The arbiter's state (R85). The stack's head is its top; bit n of `pending` says that line n is pending. -/
structure Arbiter where
  pending   : BitVec 32
  stack     : List Entry
  level     : Nat
  nesting   : Bool
  sources   : Sources
  fallCrouch : Nat
deriving DecidableEq, Repr

/-- The finished mark of the top entry (R104): clear, or set with what the unit made of it: a report to the arbiter with an
outcome (which POP takes), or a request for SAFE. -/
inductive Finish where
  | clear
  | reported (o : EndOutcome)
  | askedSafe
deriving DecidableEq, Repr

/-- The reflex action unit's state (R104), but for the contributions and reaches, which the stack entries carry. -/
structure ActionUnit where
  reachHold : PerLeg Nat
  weight    : Nat
  finished  : Finish
deriving DecidableEq, Repr

/-! ## The joint shaper and the limit table (chapters 7 and 11) -/

/-- A drive record with its record tag (R120, R131). -/
inductive DriveRecord where
  | hold (tag : Byte)
  | position (targets : PerJoint Int) (stiffness : Nat) (tag : Byte)
deriving DecidableEq, Repr

/-- The shaper's state for one leg (R120). -/
structure LegShape where
  prev      : PerJoint Int
  prevValid : Bool
  measured  : PerJoint Int
  record    : DriveRecord
deriving DecidableEq, Repr

/-- The six limit values of one joint (R177). -/
structure JointLimits where
  min       : Int
  max       : Int
  neutral   : Int
  stow      : Int
  maxStep   : Nat
  torque    : Nat
deriving DecidableEq, Repr

/-! ## The joint ring (chapter 8) -/

/-- One value for each of the five nodes. -/
structure PerNode (α : Type) where
  legs : PerLeg α
  body : α
deriving DecidableEq, Repr

/-- A sweep in flight: its tag and the leg map it was issued with (R133). -/
structure Flight where
  tag : Byte
  map : PerNode Nat
deriving DecidableEq, Repr

/-- The joint ring controller's state (R133). -/
structure Ring where
  period      : Nat
  lossLimit   : Nat
  staleLimit  : Nat
  legMap      : PerNode Nat
  /-- true for UP, false for DOWN -/
  up          : Bool
  tag         : Byte
  inFlight    : Option Flight
  staleCount  : PerNode Nat
  lastFresh   : PerLeg Bool
  lossCount   : Nat
  restoration : Nat
  /-- the period the running sweep timer was started with (R134, R145) -/
  timerPeriod : Nat
  /-- the MODEL's own: the sweep last sent, as it left on the ring's out pair (log 26) -/
  lastSweep   : Option RingFrame
deriving DecidableEq, Repr

/-! ## The supervisor (chapter 9) -/

/-- The operating state (R147). -/
inductive OpState where
  | config | standing | walking | stopping | safe
deriving DecidableEq, Repr

/-- The SAFE posture (R147, R151). -/
inductive Posture where
  | crouch | freeze
deriving DecidableEq, Repr

/-- A leg's mode (R147). -/
inductive Mode where
  | active | stowed | strut | faulted
deriving DecidableEq, Repr

/-- The supervisor's record (R147). -/
structure Supervisor where
  op           : OpState
  posture      : Option Posture
  modes        : PerLeg Mode
  resetPending : Bool
  quiesce      : Nat
  resetDone    : Bool
  /-- the MODEL's own: how often the reset-done flag has been set, by which FRAME_SENT sees whether it has been set again
  since an image was filled (R172; log 23) -/
  resetEpoch   : Nat
deriving DecidableEq, Repr

/-! ## The planner link (chapter 10) -/

/-- The kinds of alert, in the order of the table of R169. -/
inductive AlertKind where
  | detected | reflexTaken | reflexDone | hole | legFault | stateChange | bodyBlind | bodyRestored
  | relevelAborted | ringRestored | resetDone | badGait | strideIgnored | linkReset
deriving DecidableEq, Repr

/-- The key of an alert (R169). -/
inductive Key where
  | none
  | line (n : Nat)
  | leg (l : LegId)
deriving DecidableEq, Repr

/-- Why a stride frame was ignored (R165). -/
inductive IgnoreReason where
  | config | safe | resetPending
deriving DecidableEq, Repr

/-- The detail an alert carries (R169). -/
inductive Detail where
  | none
  | disposition (d : Disposition)
  | outcome (o : EndOutcome)
  | line (n : Nat)
  | mode (m : Mode)
  | state (entered : OpState) (posture : Option Posture)
  | reason (r : IgnoreReason)
deriving DecidableEq, Repr

/-- An entry of the alert queue (R169). -/
structure AlertEntry where
  kind    : AlertKind
  key     : Key
  detail  : Detail
  tag     : Byte
  value   : Int
  repeats : Nat
deriving DecidableEq, Repr

/-- The reply codes (R175). -/
inductive ReplyCode where
  | done | deferred | state | inUse | range | order | notReady | full
deriving DecidableEq, Repr

/-- A reply (R168, R189): the echoed command code and tag, the reply code and the data bytes of a query answered DONE. -/
structure Reply where
  command : Byte
  tag     : Byte
  code    : ReplyCode
  data    : List Byte
deriving DecidableEq, Repr

/-- A received setup or query frame: its kind and its payload (command code, command tag, arguments). -/
structure CmdFrame where
  query   : Bool
  payload : List Byte
deriving DecidableEq, Repr

/-- What a leg does in its stride, as the status image and READ-LEG report it (R30). -/
inductive Motion where
  | stance | swing | parked
deriving DecidableEq, Repr

/-- What a status image carries of one leg (R171). -/
structure LegImage where
  mode     : Mode
  phase    : Phase
  motion   : Motion
  contact  : Contact
  degraded : Bool
  prev     : PerJoint Int
deriving DecidableEq, Repr

/-- A status image (R171). -/
structure StatusImage where
  op            : OpState
  master        : Phase
  rate          : Nat
  amp           : Nat
  current       : Nat
  pendingGait   : Option Nat
  legs          : PerLeg LegImage
  heldPitch     : Int
  heldRoll      : Int
  blind         : Bool
  level         : Nat
  topLine       : Option Nat
  pending       : BitVec 32
  holdOff       : Nat
  intentAge     : Nat
  alertsDropped : Bool
  resetDone     : Bool
  /-- the MODEL's own, not sent: the two epochs when the image was filled (log 23) -/
  dropEpoch     : Nat
  resetEpoch    : Nat
deriving DecidableEq, Repr

/-- The item a transmitted frame carries (R172). -/
inductive TxItem where
  | reply (r : Reply)
  | alert (a : AlertEntry)
  | status (i : StatusImage)
deriving DecidableEq, Repr

/-- The receive reassembly (R163): HUNTING, or COLLECTING with the bytes that followed the start byte so far. -/
inductive Rx where
  | hunting
  | collecting (bytes : List Byte)
deriving DecidableEq, Repr

/-- The planner link's state (R163). -/
structure Link where
  rx            : Rx
  inbox         : List CmdFrame
  replies       : List Reply
  /-- whether one reply entry is reserved for the frame in progress (R167) -/
  reserved      : Bool
  alerts        : List AlertEntry
  alertsDropped : Bool
  /-- the MODEL's own: how many alerts have been dropped, by which FRAME_SENT sees whether one has been dropped since an
  image was filled (R170; log 23) -/
  dropEpoch     : Nat
  statusBuf     : Option StatusImage
  interval      : Nat
  statusCount   : Nat
  /-- the transmitter: idle, or sending one frame -/
  sending       : Option TxItem
  /-- the setup processor: idle, or busy with one frame -/
  busy          : Option CmdFrame
deriving DecidableEq, Repr

/-! ## What the blocks have made for one another and nobody has taken yet (the MODEL's own fields, log 1) -/

/-- The leg record of a fresh slot as the contact monitor is handed it (R45, R140, R195). -/
structure LegRec where
  force   : Nat
  hf      : Int
  torques : PerJoint Int
deriving DecidableEq, Repr

/-- A leg slot handed to the contact monitor: a stale mark or a fresh record (R140). -/
inductive LegSlot where
  | stale
  | fresh (r : LegRec)
deriving DecidableEq, Repr

/-- A fresh body record (R138). -/
structure BodyRec where
  pitch     : Int
  roll      : Int
  pitchRate : Int
  rollRate  : Int
  valid     : Bool
deriving DecidableEq, Repr

/-- A body slot handed to the balance unit (R65, R140). -/
inductive BodySlot where
  | stale
  | fresh (r : BodyRec)
deriving DecidableEq, Repr

/-- A body slot as the balance unit is handed it: with the stale limit as it stood at the sweep return, against which the unit judges
blindness (R66). -/
structure HandedBody where
  slot       : BodySlot
  staleLimit : Nat
deriving DecidableEq, Repr

/-- What the phase engine reports of one playing slot at an advance (R31). -/
structure LegReport where
  liftoff     : Bool
  touchdown   : Bool
  /-- whether the leg parked at this advance (R54) -/
  parked      : Bool
  oldPhase    : Phase
  newPhase    : Phase
  rate        : Nat
  /-- whether the slot can have crossed a phase: it was unparked before the advance and was not re-derived at it (R31) -/
  crossing    : Bool
  /-- whether the slot kept its bank and offset through the advance; judged by equality (R54; log 13) -/
  kept        : Bool
  swingAfter  : Bool
  bank        : Nat
  offset      : Phase
deriving DecidableEq, Repr

/-- A raise on its way to the arbiter: the line, the value, and the sweep tag current at the raise (R81, R87). -/
structure Raise where
  line  : Nat
  value : Int
  tag   : Byte
deriving DecidableEq, Repr

/-- What has been handed over, reported or asked for, and waits for the command that takes it (log 1). -/
structure Wires where
  /-- frames that have arrived and are not yet judged: the bytes after the start byte (R164) -/
  arrived       : List (List Byte)
  /-- leg slots for the contact monitor (R140) -/
  legSlots      : PerLeg (List LegSlot)
  /-- drive statuses of fresh leg records for the supervisor (R140) -/
  driveStatus   : PerLeg (List Byte)
  /-- stale-limit reports for the supervisor, with the stale count (R139) -/
  staleReports  : PerLeg (List Nat)
  /-- body slots for the balance unit (R140), each with the stale limit of its sweep return (R66) -/
  bodySlots     : List HandedBody
  /-- sweep returns for the phase engine, by the tag of the sweep (R140) -/
  sweepReturns  : List Byte
  /-- sweep returns for the reflex action unit (R106) -/
  reflexReturns : Nat
  /-- sweep returns for the link's status count (R171) -/
  statusReturns : Nat
  /-- phase updates for the joint shaper, by the tag of the sweep (R32) -/
  phaseUpdates  : List Byte
  /-- reports of advances for the contact monitor and the reflex action unit (R31): none for a non-playing slot -/
  reports       : List (PerLeg (Option LegReport))
  /-- raises for the arbiter (R81) -/
  raises        : List Raise
  /-- walk requests, stop requests, SAFE requests and the all-parked report for the supervisor (R24, R38, R116, R150) -/
  walkRequests  : Nat
  stopRequests  : Nat
  safeRequests  : List SafeCause
  allParked     : Bool
deriving DecidableEq, Repr

/-- The state of the bridge. -/
structure State where
  /-- profile memory (R3 to R11) -/
  banks   : Vector Bank 64
  /-- the gait table (R12 to R14); none for UNDEFINED -/
  gaits   : Vector (Option Gait) 16
  engine  : Engine
  monitor : Monitor
  balance : Balance
  arbiter : Arbiter
  unit    : ActionUnit
  shaper  : PerLeg LegShape
  /-- the limit table (R177); none for an unset leg -/
  limits  : PerLeg (Option (PerJoint JointLimits))
  ring    : Ring
  sup     : Supervisor
  link    : Link
  /-- the MODEL's own: what waits between the blocks (log 1) -/
  wires   : Wires
  /-- the MODEL's own: how many free values have been drawn (log 5) -/
  freeDraws : Nat
  /-- the MODEL's own: the commands that wait, first in, first out -/
  pending : List Instr
deriving DecidableEq, Repr

/-- The reasons a step stops with a fault. There is none: every rule of the manual gives its step an effect, so the closed
inductive has no constructor. -/
inductive Fault
deriving DecidableEq, Repr

/-- The reasons a step is refused. -/
inductive Refusal where
  /-- Raised by an arm of `exec` whose command has no meaning yet. Safe: the model stops where the part goes on. -/
  | notModelled (mnemonic : String)
deriving DecidableEq, Repr

/-! ## Power-on values -/

/-- Bank 0, STAND (R9). -/
def standProfile : Profile :=
  { header := { liftoff := 0, touchdown := 0, refresh := 0, scale := .all false, stanceStiff := 10, swingStiff := 10 }
    knots := .all (List.replicate 32 0) }

/-- Bank 1, CROUCH (R9). -/
def crouchProfile : Profile :=
  { header := { liftoff := 0, touchdown := 0, refresh := 0, scale := .all false, stanceStiff := 12, swingStiff := 12 }
    knots := ⟨List.replicate 32 0, List.replicate 32 400, List.replicate 32 800⟩ }

/-- Profile memory at power-on (R10). -/
def powerOnBanks : Vector Bank 64 :=
  ((Vector.replicate 64 Bank.empty).setIfInBounds 0 (.ready standProfile)).setIfInBounds 1 (.ready crouchProfile)

/-- Entry 0 (R14). -/
def builtInGait : Gait := .quad (.all { bank := 0, offset := 0 })

/-- The gait table at power-on (R14). -/
def powerOnGaits : Vector (Option Gait) 16 :=
  (Vector.replicate 16 Option.none).setIfInBounds 0 (some builtInGait)

/-- The slot of R21: bank 0, offset 0, mirror clear, stance, parked at phase 0. It is also the non-playing slot of R18. -/
def restSlot : Slot := { bank := 0, offset := 0, mirror := false, phase := 0, swing := false, parked := some 0 }

/-- The walk settings' defaults (R25). -/
def defaultWalk : WalkSettings :=
  { rateCeiling := 1024, rateFloor := 64, strutCap := 256, rateStep := 16, ampStep := 4, intentTimeout := 100 }

/-- The phase engine after a reset that finds the walk settings `w` (R21, R22, R26, R27, R28, R41, R42, R43). -/
def resetEngine (w : WalkSettings) : Engine :=
  { intent := { rateTarget := w.rateFloor, ampTarget := 0, turn := 0, direction := .forward, stop := true }
    walk := w, rate := 0, amp := 0, master := 0, slots := .all restSlot, current := 0, pendingGait := Option.none
    intentAge := 0, holdOff := 0, linkLossArmed := true }

/-- The contact settings' defaults (R61). -/
def defaultContact : ContactSettings :=
  { onThreshold := 60, offThreshold := 30, onCount := 2, offCount := 3, earlyMargin := 4096, lateMargin := 4096
    unloadMargin := 2048, slipThreshold := 120, slipCount := 4, torqueCount := 3, maxAge := 20000 }

/-- A leg's contact record after a reset, with the baseline the reset leaves and the maximum baseline age in force (R44). -/
def resetContact (baseline maxAge : Nat) : LegContact :=
  { contact := .unknown, onCount := 0, offCount := 0, baseline := baseline, age := maxAge, capture := Option.none
    earlyArm := true, missedArm := true, unloadArm := true, staleArm := true
    slipCount := 0, torqueCount := 0, slipArm := true, torqueArm := true }

/-- A band with every gain and authority 0 (R74). -/
def zeroBand : PerJoint Gains := .all { kpPitch := 0, kdPitch := 0, kpRoll := 0, kdRoll := 0, authority := 0 }

/-- The balance unit at power-on (R64, R73, R74, R79). -/
def powerOnBalance : Balance :=
  { heldPitch := 0, heldRoll := 0, heldPitchRate := 0, heldRollRate := 0, unusable := 0, blind := false
    refSource := .planner, refPitch := 0, refRoll := 0, band := 0, relevel := Option.none, tiltArm := true, fallArm := true
    t1 := 87, t2 := 175, t3 := 262, bands := ⟨zeroBand, zeroBand, zeroBand, zeroBand⟩
    tiltWarning := 175, fallLimit := 524 }

/-- The maskable sources at power-on (R82). -/
def defaultSources : Sources :=
  { tilt          := ⟨true, 5, .hold, 50, 0⟩
    linkLoss      := ⟨true, 4, .stop, 1, 0⟩
    earlyContact  := ⟨true, 6, .retract, 40, 150⟩
    missedStep    := ⟨true, 6, .plant, 60, 10⟩
    unload        := ⟨true, 5, .plant, 60, 10⟩
    slip          := ⟨true, 4, .hold, 30, 0⟩
    overtorque    := ⟨true, 7, .hold, 100, 0⟩
    baselineStale := ⟨true, 1, .note, 1, 0⟩ }

/-- The arbiter at power-on (R85). -/
def powerOnArbiter : Arbiter :=
  { pending := 0, stack := [], level := 0, nesting := true, sources := defaultSources, fallCrouch := 200 }

/-- The reflex action unit after either reset (R104). -/
def resetUnit : ActionUnit := { reachHold := .all 0, weight := 0, finished := .clear }

/-- A leg's shape at power-on (R120). -/
def powerOnShape : LegShape := { prev := .all 0, prevValid := false, measured := .all 0, record := .hold 0 }

/-- The joint ring controller at power-on (R133). -/
def powerOnRing : Ring :=
  { period := 20, lossLimit := 5, staleLimit := 3, legMap := ⟨⟨1, 2, 3, 4⟩, 5⟩, up := true, tag := 0, inFlight := Option.none
    staleCount := ⟨.all 0, 0⟩, lastFresh := .all false, lossCount := 0, restoration := 0
    timerPeriod := 20, lastSweep := Option.none }

/-- The supervisor at power-on (R147, R148). -/
def powerOnSupervisor : Supervisor :=
  { op := .config, posture := Option.none, modes := .all .active, resetPending := false, quiesce := 0, resetDone := true
    resetEpoch := 0 }

/-- The planner link at power-on (R163). -/
def powerOnLink : Link :=
  { rx := .hunting, inbox := [], replies := [], reserved := false, alerts := [], alertsDropped := false, dropEpoch := 0
    statusBuf := Option.none, interval := 10, statusCount := 0, sending := Option.none, busy := Option.none }

/-- Nothing waits between the blocks. -/
def noWires : Wires :=
  { arrived := [], legSlots := .all [], driveStatus := .all [], staleReports := .all [], bodySlots := [], sweepReturns := []
    reflexReturns := 0, statusReturns := 0, phaseUpdates := [], reports := [], raises := []
    walkRequests := 0, stopRequests := 0, safeRequests := [], allParked := false }

/-- The bridge right after power-on: every table and every piece of runtime state at its power-on value (R148). -/
def State.reset : State :=
  { banks := powerOnBanks, gaits := powerOnGaits, engine := resetEngine defaultWalk
    monitor := { legs := .all (resetContact 0 20000), settings := defaultContact }
    balance := powerOnBalance, arbiter := powerOnArbiter, unit := resetUnit, shaper := .all powerOnShape
    limits := .all Option.none, ring := powerOnRing, sup := powerOnSupervisor, link := powerOnLink, wires := noWires
    freeDraws := 0, pending := [] }

end Sys2Proof.Machine
end

