-- ==== Sys2Proof/Machine/Operands.lean ====
section
/-!
DEFINITION. Reading bytes: big-endian fields (R186), the CRC-16 (R164), the arguments of setup and query frames with the
lengths each command requires (R174, R189), the fields of a stride frame (R188, R193), and the slots of a returned sweep
(R194, R195).
-/

namespace Sys2Proof.Machine

/-! ## Fields -/

/-- The byte at an offset, as a number. -/
def u8 (bs : List Byte) (i : Nat) : Nat := (bs.getD i 0).toNat

/-- A two-byte unsigned field, most significant byte first (R186). -/
def u16 (bs : List Byte) (i : Nat) : Nat := u8 bs i * 256 + u8 bs (i + 1)

/-- The two's complement reading of a 16-bit number (R186). -/
def signed16 (n : Nat) : Int := if n < 32768 then (n : Int) else (n : Int) - 65536

/-- A two-byte signed field (R186). -/
def s16 (bs : List Byte) (i : Nat) : Int := signed16 (u16 bs i)

/-- A two-byte phase field. -/
def phaseAt (bs : List Byte) (i : Nat) : Phase := BitVec.ofNat 16 (u16 bs i)

/-! ## The CRC-16 of both ports (R164, R194) -/

/-- One bit of the division by x^16 + x^12 + x^5 + 1. -/
def crcBit (c : BitVec 16) : BitVec 16 := if c.msb then (c <<< 1) ^^^ 0x1021#16 else c <<< 1

/-- One byte enters the computation, most significant bit first. -/
def crcByte (c : BitVec 16) (b : Byte) : BitVec 16 :=
  crcBit (crcBit (crcBit (crcBit (crcBit (crcBit (crcBit (crcBit (c ^^^ (b.setWidth 16 <<< 8)))))))))

/-- The CRC over some bytes: initial value all ones, nothing reflected, no final value (R164). -/
def crc16 (bs : List Byte) : BitVec 16 := bs.foldl crcByte 0xFFFF#16

/-- The two bytes of a CRC, most significant first (R187). -/
def crcBytes (c : BitVec 16) : List Byte := [(c >>> 8).setWidth 8, c.setWidth 8]

/-! ## Setup and query frames -/

/-- The commands of the planner, in the order of their codes (R189). -/
inductive Command where
  | openBank | writePart | defineGait | undefineGait | setLimits | setGains | setBands | setContact | setReflex
  | setArbiter | setTilt | setLegMode | setLegMap | setRing | setWalk | setStatus | release | relevel | resume | reset
  | clearPending
  | readBank | readPart | readGait | readTable | readLeg | identify
deriving DecidableEq, Repr

/-- The command a code names in a frame of its kind (R174, R189): setup commands are coded 1 to 21, queries 64 to 69. -/
def commandOf (query : Bool) (code : Nat) : Option Command :=
  match query, code with
  | false, 1 => some .openBank | false, 2 => some .writePart | false, 3 => some .defineGait
  | false, 4 => some .undefineGait | false, 5 => some .setLimits | false, 6 => some .setGains
  | false, 7 => some .setBands | false, 8 => some .setContact | false, 9 => some .setReflex
  | false, 10 => some .setArbiter | false, 11 => some .setTilt | false, 12 => some .setLegMode
  | false, 13 => some .setLegMap | false, 14 => some .setRing | false, 15 => some .setWalk
  | false, 16 => some .setStatus | false, 17 => some .release | false, 18 => some .relevel
  | false, 19 => some .resume | false, 20 => some .reset | false, 21 => some .clearPending
  | true, 64 => some .readBank | true, 65 => some .readPart | true, 66 => some .readGait
  | true, 67 => some .readTable | true, 68 => some .readLeg | true, 69 => some .identify
  | _, _ => none

/-- The arguments of a frame: the payload after the command code and the command tag (R189). -/
def CmdFrame.args (f : CmdFrame) : List Byte := f.payload.drop 2

/-- The command code of a frame. -/
def CmdFrame.code (f : CmdFrame) : Byte := f.payload.getD 0 0

/-- The command tag of a frame. -/
def CmdFrame.tag (f : CmdFrame) : Byte := f.payload.getD 1 0

/-- The argument lengths that fit a command (R189). WRITE-PART's follows its part number, DEFINE-GAIT's its kind, SET-REFLEX's
its source, READ-TABLE's its table; where that byte is outside its codes either length passes here and the command's own
range check refuses it (log 11: the reply is RANGE both ways). -/
def argLengths (c : Command) (a : List Byte) : List Nat :=
  match c with
  | .openBank | .undefineGait | .setArbiter | .readBank | .readGait | .readLeg => [1]
  | .setStatus | .readPart => [2]
  | .writePart => if u8 a 1 = 0 then [11] else if u8 a 1 ≤ 3 then [66] else [11, 66]
  | .defineGait => if u8 a 1 = 0 then [14] else if u8 a 1 ≤ 2 then [11] else [11, 14]
  | .setLimits => [34]
  | .setGains => [31]
  | .setBands => [6]
  | .setContact => [18]
  | .setReflex => if u8 a 0 < 8 then [8] else if u8 a 0 = 8 then [3] else [3, 8]
  | .setTilt => [4]
  | .setLegMode => [3]
  | .setLegMap => [5]
  | .setRing => [3]
  | .setWalk => [11]
  | .release | .relevel | .resume | .reset | .clearPending | .identify => [0]
  | .readTable => if u8 a 0 = 1 ∨ u8 a 0 = 4 then [2] else if u8 a 0 ≤ 7 then [1] else [1, 2]

/-- The command of a well-formed frame; none for a frame that is not well formed (R174). -/
def readCommand (f : CmdFrame) : Option Command :=
  match commandOf f.query f.code.toNat with
  | some c => if (argLengths c f.args).contains f.args.length then some c else none
  | none => none

/-- A flag argument: bit 0, the other bits 0 (R192, R193); none when another bit is set. -/
def flagArg (a : List Byte) (i : Nat) : Option Bool :=
  match u8 a i with
  | 0 => some false
  | 1 => some true
  | _ => none

/-- The scale mask's three bits (R192); none when bits 3 to 7 are not 0 (R193). -/
def maskArg (n : Nat) : Option (PerJoint Bool) :=
  if n < 8 then some ⟨n.testBit 0, n.testBit 1, n.testBit 2⟩ else none

/-- The header that a WRITE-PART of part 0 carries (R189); none when the scale mask is not a set of joints. -/
def headerArg (a : List Byte) : Option Header :=
  match maskArg (u8 a 8) with
  | some m => some { liftoff := phaseAt a 2, touchdown := phaseAt a 4, refresh := phaseAt a 6, scale := m
                     stanceStiff := u8 a 9, swingStiff := u8 a 10 }
  | none => none

/-- The 32 knots that a WRITE-PART of parts 1 to 3 carries (R189). -/
def knotsArg (a : List Byte) : List Int := (List.range 32).map fun i => s16 a (2 + 2 * i)

/-- A member of a DEFINE-GAIT: a bank and an offset (R189). -/
def memberArg (a : List Byte) (n : Nat) : Member := { bank := u8 a (2 + 3 * n), offset := phaseAt a (3 + 3 * n) }

/-- The kind and members that a DEFINE-GAIT carries (R192); none when the kind is not one of the three. -/
def gaitArg (a : List Byte) : Option Gait :=
  match u8 a 1 with
  | 0 => some (.quad ⟨memberArg a 0, memberArg a 1, memberArg a 2, memberArg a 3⟩)
  | 1 => some (.triF (memberArg a 0) (memberArg a 1) (memberArg a 2))
  | 2 => some (.triH (memberArg a 0) (memberArg a 1) (memberArg a 2))
  | _ => none

/-- The six limit values of joint number `n` in a SET-LIMITS (R189). -/
def jointLimitsArg (a : List Byte) (n : Nat) : JointLimits :=
  { min := s16 a (1 + 11 * n), max := s16 a (3 + 11 * n), neutral := s16 a (5 + 11 * n), stow := s16 a (7 + 11 * n)
    maxStep := u8 a (9 + 11 * n), torque := u16 a (10 + 11 * n) }

/-- The eighteen values of a SET-LIMITS. -/
def limitsArg (a : List Byte) : PerJoint JointLimits := ⟨jointLimitsArg a 0, jointLimitsArg a 1, jointLimitsArg a 2⟩

/-- The five values of joint number `n` in a SET-GAINS (R189). -/
def gainsArg (a : List Byte) (n : Nat) : Gains :=
  { kpPitch := s16 a (1 + 10 * n), kdPitch := s16 a (3 + 10 * n), kpRoll := s16 a (5 + 10 * n), kdRoll := s16 a (7 + 10 * n)
    authority := u16 a (9 + 10 * n) }

/-- The eleven settings of a SET-CONTACT (R61, R189). -/
def contactArg (a : List Byte) : ContactSettings :=
  { onThreshold := u16 a 0, offThreshold := u16 a 2, onCount := u8 a 4, offCount := u8 a 5, earlyMargin := u16 a 6
    lateMargin := u16 a 8, unloadMargin := u16 a 10, slipThreshold := u16 a 12, slipCount := u8 a 14
    torqueCount := u8 a 15, maxAge := u16 a 16 }

/-- The six settings of a SET-WALK (R25, R189). -/
def walkArg (a : List Byte) : WalkSettings :=
  { rateCeiling := u16 a 0, rateFloor := u16 a 2, strutCap := u16 a 4, rateStep := u16 a 6, ampStep := u8 a 8
    intentTimeout := u16 a 9 }

/-- The maskable source of a code (R192). -/
def sourceArg : Nat → Option Source
  | 0 => some .tilt | 1 => some .linkLoss | 2 => some .earlyContact | 3 => some .missedStep | 4 => some .unload
  | 5 => some .slip | 6 => some .overtorque | 7 => some .baselineStale | _ => none

/-- The maskable action of a code (R192). -/
def actionArg : Nat → Option Action
  | 0 => some .hold | 1 => some .retract | 2 => some .plant | 3 => some .stop | 4 => some .note | _ => none

/-- The leg mode of a code that SET-LEG-MODE may request (R157, R192): FAULTED may not be requested. -/
def modeArg : Nat → Option Mode
  | 0 => some .active | 1 => some .stowed | 2 => some .strut | _ => none

/-! ## Stride frames (R188, R193) -/

/-- The fields of a stride frame, decoded by R193 and not yet clamped. -/
structure Stride where
  rate       : Nat
  amplitude  : Nat
  turn       : Int
  direction  : Direction
  stop       : Bool
  references : Bool
  gait       : Option Nat
  slope      : Int
  roll       : Int
  holdOff    : Nat
deriving DecidableEq, Repr

/-- A stride payload read (R188, R193). -/
def readStride (p : List Byte) : Stride :=
  { rate := u16 p 0, amplitude := u16 p 2, turn := s16 p 4, direction := if u8 p 6 = 0 then .forward else .backward
    stop := (u8 p 7).testBit 0, references := (u8 p 7).testBit 1, gait := if u8 p 8 = 255 then none else some (u8 p 8)
    slope := s16 p 9, roll := s16 p 11, holdOff := u8 p 13 }

/-- A stride frame carries a stop request when its stop flag is set or its rate is 0 (R23, R165). -/
def Stride.isStop (f : Stride) : Bool := f.stop || f.rate == 0

/-! ## Arrived frames (R164) -/

/-- What the planner link makes of an arrived frame. -/
inductive Judged where
  | dropped
  | stride (payload : List Byte)
  | command (f : CmdFrame)
deriving DecidableEq, Repr

/-- The payload of an arrived frame, given as the bytes after the start byte: length, kind, payload, CRC. -/
def arrivedPayload (bs : List Byte) : List Byte := (bs.drop 2).take (u8 bs 0)

/-- An arrived frame's CRC agrees: the CRC over the length byte, the kind byte and the payload is the two bytes that follow. -/
def arrivedCrcGood (bs : List Byte) : Bool := crcBytes (crc16 (bs.take (u8 bs 0 + 2))) == bs.drop (u8 bs 0 + 2)

/-- The judging of an arrived frame (R164): CRC, kind, and length. -/
def judge (bs : List Byte) : Judged :=
  if arrivedCrcGood bs = false then .dropped
  else if u8 bs 1 = 1 then (if u8 bs 0 = 14 then .stride (arrivedPayload bs) else .dropped)
  else if u8 bs 1 = 2 then (if u8 bs 0 < 2 then .dropped else .command ⟨false, arrivedPayload bs⟩)
  else if u8 bs 1 = 3 then (if u8 bs 0 < 2 then .dropped else .command ⟨true, arrivedPayload bs⟩)
  else .dropped

/-! ## Sweeps (R194, R195) -/

/-- The sixteen bytes of the slot at ring position 1 to 5. -/
def ringSlot (f : RingFrame) (position : Nat) : List Byte := (f.slots.drop (16 * (position - 1))).take 16

/-- The CRC of a sweep, over its tag and its slots (bytes 1 to 81, R194). -/
def sweepCrc (tag : Byte) (slots : List Byte) : BitVec 16 := crc16 (tag :: slots)

/-- A return's ring CRC is good. A return that is not 84 bytes long has no good CRC (log 25). -/
def ringCrcGood (f : RingFrame) : Bool := f.slots.length == 80 && f.crc == sweepCrc f.tag f.slots

/-- A slot is fresh when its echoed tag is the sweep's (R138). -/
def slotFresh (slot : List Byte) (tag : Byte) : Bool := slot.getD 0 0 == tag

/-- A joint torque, clamped into its range (R195). -/
def torqueAt (slot : List Byte) (i : Nat) : Int := clampI (s16 slot i) (-3000) 3000

/-- A fresh leg slot as the contact monitor is handed it (R194, R195). -/
def readLegRec (slot : List Byte) : LegRec :=
  { force := min (u16 slot 2) 4095, hf := s16 slot 6, torques := ⟨torqueAt slot 10, torqueAt slot 12, torqueAt slot 14⟩ }

/-- The three measured angles of a fresh leg slot (R194). -/
def readAngles (slot : List Byte) : PerJoint Int := ⟨s16 slot 4, s16 slot 6, s16 slot 8⟩

/-- The drive status byte of a fresh leg slot (R194). -/
def readDriveStatus (slot : List Byte) : Byte := slot.getD 1 0

/-- A drive status is FAULT when it is anything but 0 (R195). -/
def statusIsFault (b : Byte) : Bool := b != 0

/-- A fresh body slot (R194, R195): only the value 1 sets the valid flag. -/
def readBodyRec (slot : List Byte) : BodyRec :=
  { pitch := s16 slot 1, roll := s16 slot 3, pitchRate := s16 slot 5, rollRate := s16 slot 7, valid := u8 slot 9 == 1 }

end Sys2Proof.Machine
end

