-- ==== Sys2Proof/Machine/Flags.lean ====
section
/-!
DEFINITION. What is read off the state: swing windows, degraded legs, playing slots, legal gaits, banks in use, the frozen
stride, the reflex lines and their settings, the attitude errors. Nothing here changes the state.
-/

namespace Sys2Proof.Machine

/-! ## Banks and gait entries (chapter 1) -/

/-- A bank of profile memory; EMPTY for a number that is none. -/
def State.bank (s : State) (n : Nat) : Bank := (s.banks[n]?).getD .empty

/-- A gait entry; none when it is UNDEFINED or the number is none. -/
def State.gait (s : State) (n : Nat) : Option Gait := (s.gaits[n]?).getD none

/-- The profile of a bank that is READY. A bank that is not READY is never played (law of R8); its profile here is STAND's
(log 24). -/
def State.profile (s : State) (n : Nat) : Profile :=
  match s.bank n with
  | .ready p => p
  | _ => standProfile

/-- A READY bank's header. -/
def State.header (s : State) (n : Nat) : Header := (s.profile n).header

/-- The bank is READY. -/
def Bank.isReady : Bank → Bool
  | .ready _ => true
  | _ => false

/-- The length of a header's swing window: the forward distance from liftoff to touchdown (R4). -/
def Header.window (h : Header) : Nat := fwd h.liftoff h.touchdown

/-- A leg phase lies in the swing window (R4). -/
def Header.inSwing (h : Header) (p : Phase) : Bool := fwd h.liftoff p < h.window

/-- The swing window is empty (R4). -/
def Header.emptyWindow (h : Header) : Bool := h.window == 0

/-- A header is consistent (R4). -/
def Header.consistent (h : Header) : Bool :=
  h.stanceStiff ≤ 15 && h.swingStiff ≤ 15 && (h.emptyWindow || h.inSwing h.refresh)

/-- The members of a gait. -/
def Gait.members : Gait → List Member
  | .quad m => m.toList
  | .triF p l d => [p, l, d]
  | .triH p l d => [p, l, d]

/-- A gait names a bank. -/
def Gait.names (g : Gait) (b : Nat) : Bool := g.members.any fun m => m.bank == b

/-- A bank is in use: a play slot, the current or pending entry, or any DEFINED entry names it (R8). -/
def State.inUse (s : State) (b : Nat) : Bool :=
  (s.engine.slots.toList.any fun sl => sl.bank == b)
  || ((s.gait s.engine.current).any fun g => g.names b)
  || ((s.engine.pendingGait.bind s.gait).any fun g => g.names b)
  || (s.gaits.toList.any fun e => e.any fun g => g.names b)

/-- An entry is the current or the pending gait entry (R12, R13). -/
def State.entryHeld (s : State) (n : Nat) : Bool := s.engine.current == n || s.engine.pendingGait == some n

/-! ## Modes, roles and legality (chapter 1) -/

/-- The other leg at the same end (role P of R15). -/
def partner : LegId → LegId
  | .lf => .rf | .rf => .lf | .lh => .rh | .rh => .lh

/-- The other leg on the same side (role L of R15). -/
def lateral : LegId → LegId
  | .lf => .lh | .rf => .rh | .lh => .lf | .rh => .rf

/-- The leg at the other end and the other side (role D of R15). -/
def diagonal : LegId → LegId
  | .lf => .rh | .rf => .lh | .lh => .rf | .rh => .lf

/-- A mode takes a leg out of play for the roles: STOWED or STRUT. -/
def Mode.isOut : Mode → Bool
  | .stowed | .strut => true
  | .active | .faulted => false

/-- How many legs are STOWED or STRUT. -/
def outCount (m : PerLeg Mode) : Nat := (m.toList.filter Mode.isOut).length

/-- The leg S of R15: the one leg that is STOWED or STRUT, when exactly one is. -/
def outLeg (m : PerLeg Mode) : Option LegId :=
  match LegId.all.filter fun l => (m.get l).isOut with
  | [l] => some l
  | _ => none

/-- How many legs are FAULTED. -/
def faultedCount (m : PerLeg Mode) : Nat := (m.toList.filter fun x => x == .faulted).length

/-- Some leg is STRUT. -/
def anyStrut (m : PerLeg Mode) : Bool := m.toList.any fun x => x == .strut

/-- A gait entry is legal for some leg modes (R17). -/
def legal (g : Option Gait) (m : PerLeg Mode) : Bool :=
  match g with
  | none => false
  | some (.quad _) => outCount m == 0
  | some (.triF ..) => (outLeg m).any LegId.isFront
  | some (.triH ..) => (outLeg m).any fun l => !l.isFront

/-- The member of its role that a leg takes, with the mirror flag of R16. -/
def roleMember (p l d : Member) (out leg : LegId) : Option (Member × Bool) :=
  if leg = partner out then some (p, !out.isLeft)
  else if leg = lateral out then some (l, !out.isLeft)
  else if leg = diagonal out then some (d, !out.isLeft)
  else none

/-- The member and mirror flag that fill a leg's slot; none for a non-playing slot (R15, R16, R18, R19). -/
def slotMember (g : Option Gait) (m : PerLeg Mode) (leg : LegId) : Option (Member × Bool) :=
  if m.get leg = .active then
    match g with
    | none => none
    | some (.quad q) => some (q.get leg, false)
    | some (.triF p l d) => (outLeg m).bind fun o => roleMember p l d o leg
    | some (.triH p l d) => (outLeg m).bind fun o => roleMember p l d o leg
  else none

/-- A leg's slot is playing (R18). -/
def State.playing (s : State) (leg : LegId) : Bool :=
  (slotMember (s.gait s.engine.current) s.sup.modes leg).isSome

/-- Every playing slot is parked; so too when none plays (R38). -/
def State.everyPlayingParked (s : State) : Bool :=
  LegId.all.all fun l => !s.playing l || (s.engine.slots.get l).parked.isSome

/-- The largest rate target in force: the strut cap while a leg is STRUT, else the rate ceiling (R22, R23). -/
def rateCap (w : WalkSettings) (m : PerLeg Mode) : Nat := if anyStrut m then w.strutCap else w.rateCeiling

/-- The side amplitude of a leg (R27). -/
def Engine.sideAmp (e : Engine) (l : LegId) : Int :=
  clampI (if l.isLeft then (e.amp : Int) + e.intent.turn else (e.amp : Int) - e.intent.turn) 0 256

/-- What a slot does in its stride, as it is reported (R30). -/
def Slot.motion (sl : Slot) : Motion :=
  if sl.parked.isSome then .parked else if sl.swing then .swing else .stance

/-! ## Operating states -/

/-- STANDING, WALKING or STOPPING. -/
def OpState.isLive : OpState → Bool
  | .standing | .walking | .stopping => true
  | .config | .safe => false

/-- WALKING or STOPPING. -/
def OpState.isMoving : OpState → Bool
  | .walking | .stopping => true
  | .config | .safe | .standing => false

/-- CONFIG or STANDING. -/
def OpState.isAtRest : OpState → Bool
  | .config | .standing => true
  | .walking | .stopping | .safe => false

/-! ## Reflex lines (chapter 5) -/

/-- The source a line belongs to (R81). -/
def lineSource (n : Nat) : Source :=
  if n ≤ 3 then .driveFault
  else if n = 4 then .fall
  else if n = 5 then .ringLoss
  else if n = 6 then .tilt
  else if n = 7 then .linkLoss
  else if n ≤ 11 then .earlyContact
  else if n ≤ 15 then .missedStep
  else if n ≤ 19 then .unload
  else if n ≤ 23 then .slip
  else if n ≤ 27 then .overtorque
  else .baselineStale

/-- The leg a line belongs to; none for the robot-wide lines 4 to 7 (R81). -/
def lineLeg (n : Nat) : Option LegId := if 4 ≤ n ∧ n ≤ 7 then none else LegId.ofNum (n % 4)

/-- The line of a source, for a leg where the source is per leg (R81). -/
def lineOf (src : Source) (l : LegId) : Nat :=
  match src with
  | .driveFault => l.num
  | .fall => 4
  | .ringLoss => 5
  | .tilt => 6
  | .linkLoss => 7
  | .earlyContact => 8 + l.num
  | .missedStep => 12 + l.num
  | .unload => 16 + l.num
  | .slip => 20 + l.num
  | .overtorque => 24 + l.num
  | .baselineStale => 28 + l.num

/-- A hard source (R81, R84). -/
def Source.isHard : Source → Bool
  | .driveFault | .fall | .ringLoss => true
  | _ => false

/-- A line of a hard source. -/
def lineHard (n : Nat) : Bool := (lineSource n).isHard

/-- The settings of a maskable source; those of a hard source are fixed: always enabled, with its level as its priority and the
action and duration of R84 (the FALL crouch duration is a setting of the arbiter). -/
def Arbiter.settings (a : Arbiter) : Source → SourceSettings
  | .tilt => a.sources.tilt
  | .linkLoss => a.sources.linkLoss
  | .earlyContact => a.sources.earlyContact
  | .missedStep => a.sources.missedStep
  | .unload => a.sources.unload
  | .slip => a.sources.slip
  | .overtorque => a.sources.overtorque
  | .baselineStale => a.sources.baselineStale
  | .fall => ⟨true, 10, .crouch, a.fallCrouch, 0⟩
  | .driveFault => ⟨true, 9, .hold, Config.driveFaultHold, 0⟩
  | .ringLoss => ⟨true, 8, .none, 0, 0⟩

/-- The priority of a line as its settings then stand, or the level of a hard line (R84, R90). -/
def Arbiter.priority (a : Arbiter) (n : Nat) : Nat := (a.settings (lineSource n)).priority

/-- A line is pending (R85). -/
def Arbiter.isPending (a : Arbiter) (n : Nat) : Bool := a.pending.getLsbD n

/-- The better of the best line so far and line `n`: the higher priority, and among equals the lower number (R90). -/
def Arbiter.better (a : Arbiter) (best : Option Nat) (n : Nat) : Option Nat :=
  if a.isPending n then
    match best with
    | none => some n
    | some b => if a.priority b < a.priority n then some n else some b
  else best

/-- The candidate of a re-examination: the pending line of the highest priority and, among equals, the lowest number (R90). -/
def Arbiter.candidate (a : Arbiter) : Option Nat := (List.range 32).foldl a.better none

/-- The test that decides whether the candidate is taken (R91). -/
def Arbiter.passes (a : Arbiter) (n : Nat) : Bool :=
  if a.nesting then a.level < a.priority n
  else a.stack.isEmpty || (lineHard n && a.level < a.priority n)

/-- The top entry of the reflex stack. -/
def Arbiter.top (a : Arbiter) : Option Entry := a.stack.head?

/-- The stack holds an entry for a line. -/
def Arbiter.holds (a : Arbiter) (n : Nat) : Bool := a.stack.any fun e => e.line == n

/-- Actions that freeze the stride while they are top (R28). -/
def Action.freezes : Action → Bool
  | .hold | .retract | .plant | .crouch => true
  | .stop | .note | .none => false

/-- The sweep return is frozen for the phase engine (R28). -/
def State.frozen (s : State) : Bool := s.arbiter.top.any fun e => e.action.freezes

/-- The disposition of a raise: the first case of R87 that applies. -/
def State.disposition (s : State) (n : Nat) : Disposition :=
  if !s.sup.op.isLive then .ignored
  else if s.arbiter.holds n then .coalesced
  else if !lineHard n && !(s.arbiter.settings (lineSource n)).enabled then .disabled
  else if !lineHard n && s.arbiter.priority n ≤ 6 && 0 < s.engine.holdOff then .held
  else .pended

/-! ## Contact (chapter 3) -/

/-- A leg is degraded when its baseline age exceeds the maximum (R44, R50). -/
def degraded (c : LegContact) (maxAge : Nat) : Bool := maxAge < c.age

/-- A leg of the state is degraded. -/
def State.degraded (s : State) (l : LegId) : Bool := Machine.degraded (s.monitor.legs.get l) s.monitor.settings.maxAge

/-! ## Attitude (chapter 4) -/

/-- The pitch error, 0 while blind (R72). -/
def Balance.pitchError (b : Balance) : Int := if b.blind then 0 else clampI (b.refPitch - b.heldPitch) (-4095) 4095

/-- The roll error, 0 while blind (R72). -/
def Balance.rollError (b : Balance) : Int := if b.blind then 0 else clampI (b.refRoll - b.heldRoll) (-4095) 4095

/-- The pitch rate used by balance, 0 while blind (R72). -/
def Balance.usedPitchRate (b : Balance) : Int := if b.blind then 0 else b.heldPitchRate

/-- The roll rate used by balance, 0 while blind (R72). -/
def Balance.usedRollRate (b : Balance) : Int := if b.blind then 0 else b.heldRollRate

/-- The band that the magnitude of the reference pitch selects (R73). -/
def bandFor (pitch : Int) (t1 t2 t3 : Nat) : Fin 4 :=
  if pitch.natAbs < t1 then 0 else if pitch.natAbs < t2 then 1 else if pitch.natAbs < t3 then 2 else 3

/-- A gain band by its number. -/
def Bands.get (b : Bands) (n : Fin 4) : PerJoint Gains :=
  match n with
  | 0 => b.b0 | 1 => b.b1 | 2 => b.b2 | 3 => b.b3

/-- A gain band replaced. -/
def Bands.set (b : Bands) (n : Fin 4) (g : PerJoint Gains) : Bands :=
  match n with
  | 0 => { b with b0 := g }
  | 1 => { b with b1 := g }
  | 2 => { b with b2 := g }
  | 3 => { b with b3 := g }

/-- A leg's sign s_fh of R75. -/
def frontSign (l : LegId) : Int := if l.isFront then 1 else -1

/-- A leg's sign s_lr of R75. -/
def leftSign (l : LegId) : Int := if l.isLeft then 1 else -1

/-- The balance offset of a leg and joint, for a leg that receives balance (R75). -/
def Balance.offset (b : Balance) (l : LegId) (j : JointId) : Int :=
  let g := (b.bands.get b.band).get j
  clampI (floorDiv (frontSign l * (g.kpPitch * b.pitchError - g.kdPitch * b.usedPitchRate)
      + leftSign l * (g.kpRoll * b.rollError - g.kdRoll * b.usedRollRate)) 1024) (-(g.authority : Int)) g.authority

/-- A leg receives balance (R76). -/
def State.balanced (s : State) (l : LegId) : Bool :=
  match s.sup.modes.get l with
  | .stowed | .faulted => false
  | .strut => s.sup.op != .config
  | .active =>
    match s.sup.op with
    | .config => false
    | .standing | .safe => true
    | .walking | .stopping => !(s.engine.slots.get l).swing

/-- The balance offset the shaper reads (R75, R76). -/
def State.balanceOffset (s : State) (l : LegId) (j : JointId) : Int :=
  if s.balanced l then s.balance.offset l j else 0

/-! ## Reflex offsets (chapter 6) -/

/-- The knee contributions of every RETRACT and PLANT entry for a leg, added up (R113). -/
def contributions (stack : List Entry) (l : LegId) : Int :=
  stack.foldr (fun e acc => (if e.leg = some l then e.contribution else 0) + acc) 0

/-- The reflex offset of a leg and joint (R113). -/
def State.reflexOffset (s : State) (l : LegId) (j : JointId) : Int :=
  match j with
  | .ab | .hf => 0
  | .kn => clampI (contributions s.arbiter.stack l - (s.unit.reachHold.get l : Int)) (-1023) 1023

end Sys2Proof.Machine
end

