-- ==== Sys2Proof/Machine/Ops.lean ====
section
/-!
DEFINITION. The operations that more than one command shares: posting an alert, making a raise, filling the play slots,
abandoning captures, a leg-mode change, the soft reset, entering SAFE, the taking of reflex lines and the reflex stack, and the
changes of operating state.
-/

namespace Sys2Proof.Machine

/-! ## Codes used as alert values (R192) -/

/-- The code of an operating state. -/
def opCode : OpState → Nat
  | .config => 0 | .standing => 1 | .walking => 2 | .stopping => 3 | .safe => 4

/-! ## Alerts (R169, R170) -/

/-- Two alerts have the same kind and key. -/
def sameAlert (a b : AlertEntry) : Bool := a.kind == b.kind && a.key == b.key

/-- A queued entry takes in a later alert of its kind and key (R169). -/
def mergeAlert (old new : AlertEntry) : AlertEntry := { new with repeats := satSucc old.repeats 255 }

/-- An alert is posted: merged into the matching entry, or queued as a new one, or dropped (R169, R170). -/
def Link.post (k : Link) (a : AlertEntry) : Link :=
  if k.alerts.any (sameAlert a) then
    { k with alerts := k.alerts.map fun e => if sameAlert a e then mergeAlert e a else e }
  else if k.alerts.length < Config.alertSize then { k with alerts := k.alerts ++ [a] }
  else { k with alertsDropped := true, dropEpoch := k.dropEpoch + 1 }

/-- An alert posted with a given sweep tag. -/
def State.alertAt (s : State) (tag : Byte) (kind : AlertKind) (key : Key) (detail : Detail) (value : Int) : State :=
  { s with link := s.link.post { kind := kind, key := key, detail := detail, tag := tag, value := value, repeats := 0 } }

/-- An alert posted with the sweep tag current now (R169). -/
def State.alert (s : State) (kind : AlertKind) (key : Key) (detail : Detail) (value : Int) : State :=
  s.alertAt s.ring.tag kind key detail value

/-- The STATE-CHANGE alert of a change of operating state (R162). -/
def State.alertState (s : State) (entered left : OpState) (posture : Option Posture) : State :=
  s.alert .stateChange .none (.state entered posture) (opCode left)

/-! ## Raises and requests on their way (log 1) -/

/-- A detection raises a line: the raise goes to the arbiter (R81), with the sweep tag current at the raise (R87). -/
def State.sendRaise (s : State) (line : Nat) (value : Int) : State :=
  { s with wires := { s.wires with raises := s.wires.raises ++ [{ line := line, value := value, tag := s.ring.tag }] } }

/-- A stop request goes to the supervisor (R150). -/
def State.askStop (s : State) : State :=
  { s with wires := { s.wires with stopRequests := s.wires.stopRequests + 1 } }

/-- A walk request goes to the supervisor (R24). -/
def State.askWalk (s : State) : State :=
  { s with wires := { s.wires with walkRequests := s.wires.walkRequests + 1 } }

/-- A SAFE request goes to the supervisor (R116). -/
def State.askSafe (s : State) (c : SafeCause) : State :=
  { s with wires := { s.wires with safeRequests := s.wires.safeRequests ++ [c] } }

/-- In STOPPING the engine tells the supervisor when every playing slot is parked (R38). -/
def State.reportParked (s : State) : State :=
  if s.sup.op = .stopping ∧ s.everyPlayingParked = true then { s with wires := { s.wires with allParked := true } } else s

/-! ## Play slots (R19, R20) -/

/-- A playing slot parked at its bank's touchdown phase (R20). -/
def parkedSlot (touchdown : Phase) (m : Member) (mirror : Bool) : Slot :=
  { bank := m.bank, offset := m.offset, mirror := mirror, phase := touchdown, swing := false, parked := some touchdown }

/-- The slot that a re-park gives a leg (R19, R20, second case). -/
def State.reparked (s : State) (l : LegId) : Slot :=
  match slotMember (s.gait s.engine.current) s.sup.modes l with
  | some (m, mirror) => parkedSlot (s.header m.bank).touchdown m mirror
  | none => restSlot

/-- The slot that a re-derivation gives a leg when only leg modes changed (R20, third case). -/
def State.rekept (s : State) (l : LegId) : Slot :=
  match slotMember (s.gait s.engine.current) s.sup.modes l with
  | some (m, mirror) =>
    let old := s.engine.slots.get l
    if old.bank = m.bank ∧ old.offset = m.offset ∧ old.mirror = mirror then old
    else parkedSlot (s.header m.bank).touchdown m mirror
  | none => restSlot

/-- A leg's slot still plays the bank and offset it played before. -/
def State.playsOn (s : State) (before : PerLeg Slot) (l : LegId) : Bool :=
  s.playing l && (before.get l).bank == (s.engine.slots.get l).bank
    && (before.get l).offset == (s.engine.slots.get l).offset

/-- Every leg's contact record replaced. -/
def State.mapContacts (s : State) (f : LegId → LegContact → LegContact) : State :=
  { s with monitor := { s.monitor with legs := .ofFn fun l => f l (s.monitor.legs.get l) } }

/-- A capture in progress is abandoned without an alert (R54). -/
def LegContact.abandon (c : LegContact) : LegContact := { c with capture := none }

/-- Baseline captures are abandoned for legs whose slot has stopped playing or names a different bank or offset than before
(R54). -/
def State.dropMovedCaptures (s : State) (before : PerLeg Slot) : State :=
  s.mapContacts fun l c => if s.playsOn before l then c else c.abandon

/-- Every baseline capture is abandoned (R54). -/
def State.dropCaptures (s : State) : State := s.mapContacts fun _ c => c.abandon

/-- Every playing slot is re-parked at its bank's touchdown phase (R20, second case). -/
def State.repark (s : State) : State :=
  ({ s with engine := { s.engine with slots := .ofFn s.reparked } } : State).dropMovedCaptures s.engine.slots

/-- The slots are re-derived after a change of leg modes alone (R20, third case). -/
def State.rederive (s : State) : State :=
  ({ s with engine := { s.engine with slots := .ofFn s.rekept } } : State).dropMovedCaptures s.engine.slots

/-- The rate target is brought within the bounds in force (R25). -/
def State.reclampRate (s : State) : State :=
  { s with engine := { s.engine with intent := { s.engine.intent with
      rateTarget := clampN s.engine.intent.rateTarget s.engine.walk.rateFloor (rateCap s.engine.walk s.sup.modes) } } }

/-- A leg's mode and the current gait entry are set together, with the responses of R154 (R157 for SET-LEG-MODE; a drive
failure keeps the entry). -/
def State.changeMode (s : State) (leg : LegId) (m : Mode) (entry : Nat) : State :=
  let s1 : State := { s with
    sup := { s.sup with modes := s.sup.modes.set leg m }
    engine := { s.engine with current := entry }
    unit := if s.sup.modes.get leg = m then s.unit else { s.unit with reachHold := s.unit.reachHold.set leg 0 } }
  let s2 := if entry = s.engine.current then s1.rederive else s1.repark
  s2.reclampRate.reportParked

/-! ## The relevel capture (R71) -/

/-- A relevel capture in progress is abandoned with its alert; with none in progress nothing happens (R71). -/
def State.abortRelevel (s : State) : State :=
  match s.balance.relevel with
  | some r =>
    ({ s with balance := { s.balance with relevel := none } } : State).alert .relevelAborted .none .none r.taken
  | none => s

/-! ## Entries that leave the stack (R92, R95 to R97, R112, R118) -/

/-- REFLEX-DONE for an entry that leaves the stack. -/
def State.alertDone (s : State) (o : EndOutcome) (e : Entry) : State :=
  s.alert .reflexDone (.line e.line) (.outcome o) e.progress

/-- A PLANT entry that leaves the stack passes its reach into its leg's reach-hold (R112). -/
def settle (hold : PerLeg Nat) (e : Entry) : PerLeg Nat :=
  match e.action, e.leg with
  | .plant, some l => hold.set l (min (hold.get l + e.reach) 1023)
  | _, _ => hold

/-! ## The soft reset (R97, R160) -/

/-- The leg modes after a soft reset: FAULTED becomes ACTIVE, the others are kept (R147). -/
def resetMode : Mode → Mode
  | .faulted => .active
  | m => m

/-- Every block's runtime state takes its soft-reset value (R160): R21, R22, R44, R64, R85, R104, R120, R133, R147, R163. -/
def State.softReset (s : State) : State :=
  { s with
    engine := resetEngine s.engine.walk
    monitor := { s.monitor with
      legs := .ofFn fun l => resetContact (s.monitor.legs.get l).baseline s.monitor.settings.maxAge }
    balance := { s.balance with
      heldPitch := 0, heldRoll := 0, heldPitchRate := 0, heldRollRate := 0, unusable := 0, blind := false
      refSource := .planner, refPitch := 0, refRoll := 0, band := bandFor 0 s.balance.t1 s.balance.t2 s.balance.t3
      relevel := none, tiltArm := true, fallArm := true }
    arbiter := { s.arbiter with pending := 0, stack := [], level := 0 }
    unit := resetUnit
    shaper := .ofFn fun l => { s.shaper.get l with prev := .all 0, prevValid := false, record := .hold s.ring.tag }
    ring := { s.ring with staleCount := ⟨.all 0, 0⟩, lastFresh := .all false, lossCount := 0, restoration := 0 }
    sup := { s.sup with
      op := .config, posture := none, modes := .ofFn fun l => resetMode (s.sup.modes.get l)
      resetPending := false, quiesce := 0, resetDone := true, resetEpoch := s.sup.resetEpoch + 1 }
    link := { s.link with statusCount := 0 } }

/-- A soft reset is applied, its alerts in the order of R160: REFLEX-DONE with ABANDONED for each stack entry from the top
down, STATE-CHANGE when the state was not CONFIG, RESET-DONE. -/
def State.applyReset (s : State) : State :=
  let s1 := s.arbiter.stack.foldl (fun t e => t.alertDone .abandoned e) s
  let s2 := s1.softReset
  let s3 := if s.sup.op = .config then s2 else s2.alertState .config s.sup.op none
  s3.alert .resetDone .none .none 0

/-! ## Entering SAFE (R96, R151) -/

/-- The entry at whose request SAFE is entered is the top one: it completes (R96, step 1); every other entry is abandoned. -/
def endOutcome (requester : Option Nat) (top : Bool) (e : Entry) : EndOutcome :=
  if top = true ∧ requester = some e.line ∧ lineHard e.line = true then .complete else .abandoned

/-- REFLEX-DONE for every entry as SAFE is entered, from the top down (R96). -/
def State.alertEnded (s : State) (requester : Option Nat) : State :=
  match s.arbiter.stack with
  | [] => s
  | e :: rest => rest.foldl (fun t x => t.alertDone (endOutcome requester false x) x) (s.alertDone (endOutcome requester true e) e)

/-- The state of every block as SAFE is entered (R40, R54, R96, R118, R151). -/
def State.safeBlocks (s : State) (p : Posture) : State :=
  ({ s with
    sup := { s.sup with op := .safe, posture := some p }
    arbiter := { s.arbiter with pending := 0, stack := [], level := 0 }
    unit := { reachHold := s.arbiter.stack.foldl settle s.unit.reachHold, weight := 0, finished := .clear }
    engine := { s.engine with rate := 0, holdOff := 0, pendingGait := none } } : State).dropCaptures

/-- The supervisor enters SAFE with a posture; `requester` is the line of the entry that asked for it, none for the supervisor's
own conditions. A pending soft reset is applied after the entry has been made in full (R151, R159). It takes effect in
STANDING, WALKING and STOPPING alone. -/
def State.enterSafe (s : State) (p : Posture) (requester : Option Nat) : State :=
  if s.sup.op.isLive then
    let s1 := ((s.alertEnded requester).safeBlocks p).alertState .safe s.sup.op (some p)
    let s2 := s1.abortRelevel
    if s2.sup.resetPending then s2.applyReset else s2
  else s

/-! ## Taking a line (R90 to R92, R105) -/

/-- The top entry replaced. -/
def State.setTop (s : State) (e : Entry) : State :=
  { s with arbiter := { s.arbiter with stack := e :: s.arbiter.stack.tail } }

/-- The unit sets the finished mark. -/
def State.finish (s : State) (f : Finish) : State := { s with unit := { s.unit with finished := f } }

/-- A PLANT looks at its leg's contact on starting and on resuming: LOADED finishes it with COMPLETE (R110). -/
def State.plantLooks (s : State) (e : Entry) : State :=
  match e.leg with
  | some l => if (s.monitor.legs.get l).contact = .loaded then s.finish (.reported .complete) else s
  | none => s

/-- A STOP asks the supervisor to stop on starting and on resuming, and has finished when the robot stands (R114). -/
def State.stopAsks (s : State) : State :=
  if s.sup.op = .standing then s.askStop.finish (.reported .complete) else s.askStop

/-- The new top's action starts (R105, R107 to R109, R114 to R116). A RING-LOSS entry asks for SAFE at once, and the supervisor
enters it (R102). -/
def State.startAction (s : State) (e : Entry) : State :=
  match e.action with
  | .hold | .note => s
  | .retract => s.setTop { e with contribution := e.parameter }
  | .plant => s.plantLooks e
  | .stop => s.stopAsks
  | .crouch => { s with unit := { s.unit with weight := 0 } }
  | .none => s.enterSafe .freeze (some e.line)

/-- An entry that becomes top again resumes (R105, R110, R114, R117). -/
def State.resumeAction (s : State) (e : Entry) : State :=
  match e.action with
  | .plant => s.plantLooks e
  | .stop => s.stopAsks
  | .hold | .note | .retract | .crouch | .none => s

/-- The entry pushed for a line (R86). -/
def Arbiter.entryFor (a : Arbiter) (line : Nat) : Entry :=
  let c := a.settings (lineSource line)
  { line := line, leg := lineLeg line, priority := c.priority, action := c.action, duration := c.duration
    parameter := c.parameter, progress := 0, contribution := 0, reach := 0 }

/-- A full stack sheds its bottom entry (R92 step 3, R118). -/
def State.shed (s : State) : State :=
  if s.arbiter.stack.length < Config.stackSize then s
  else
    match s.arbiter.stack.getLast? with
    | some e =>
      ({ s with
        arbiter := { s.arbiter with stack := s.arbiter.stack.dropLast }
        unit := { s.unit with reachHold := settle s.unit.reachHold e, finished := .clear } } : State).alertDone .shed e
    | none => s

/-- The entry of a line is pushed and starts (R92 steps 3 to 7). -/
def State.push (s : State) (line : Nat) : State :=
  let s1 := s.shed
  let e := s1.arbiter.entryFor line
  let s2 : State := { s1 with
    arbiter := { s1.arbiter with stack := e :: s1.arbiter.stack, level := e.priority }
    unit := { s1.unit with finished := .clear } }
  (s2.alert .reflexTaken (.line line) .none s2.arbiter.stack.length).startAction e

/-- The candidate is taken (R92). -/
def State.take (s : State) (line : Nat) : State :=
  let s1 : State := { s with arbiter := { s.arbiter with pending := s.arbiter.pending &&& ~~~(BitVec.twoPow 32 line) } }
  if (s.arbiter.settings (lineSource line)).action = .note then
    (s1.alert .reflexTaken (.line line) .none 0).alert .reflexDone (.line line) (.outcome .complete) 0
  else s1.push line

/-- Re-examination, at most `n` takings (R90, R91): while the candidate passes the test it is taken. -/
def State.reexamineN : Nat → State → State
  | 0, s => s
  | n + 1, s =>
    if s.sup.op.isLive then
      match s.arbiter.candidate with
      | some c => if s.arbiter.passes c then State.reexamineN n (s.take c) else s
      | none => s
    else s

/-- The arbiter re-examines (R90): each taking removes a pending line, so 32 takings are enough. -/
def State.reexamine (s : State) : State := State.reexamineN 32 s

/-- The arbiter takes a raise: one disposition, the DETECTED alert, and for a line that is PENDED the re-examination (R87). -/
def State.takeRaise (s : State) (r : Raise) : State :=
  let d := s.disposition r.line
  let s1 := s.alertAt r.tag .detected (.line r.line) (.disposition d) r.value
  if d = .pended then
    ({ s1 with arbiter := { s1.arbiter with pending := s1.arbiter.pending ||| BitVec.twoPow 32 r.line } } : State).reexamine
  else s1

/-- The priority of a stack's top, or 0 (R93). -/
def stackLevel : List Entry → Nat
  | [] => 0
  | e :: _ => e.priority

/-- The entry that is now top resumes; an empty stack has none. -/
def State.resumeTop (s : State) : State :=
  match s.arbiter.stack with
  | [] => s
  | e :: _ => s.resumeAction e

/-- The arbiter pops the finished top entry (R95): REFLEX-DONE, the override level, the new top's resumption, and the
re-examination. -/
def State.popTop (s : State) (o : EndOutcome) : State :=
  match s.arbiter.stack with
  | [] => s
  | e :: rest =>
    let s1 : State := { s with
      arbiter := { s.arbiter with stack := rest, level := stackLevel rest }
      unit := { reachHold := settle s.unit.reachHold e
                weight := if e.action = .crouch then 0 else s.unit.weight
                finished := .clear } }
    (s1.alertDone o e).resumeTop.reexamine

/-! ## Changes of operating state (R149, R150, R40) -/

/-- A pending gait is applied at once, as STANDING is entered from STOPPING (R35, R40). -/
def State.applyPendingStanding (s : State) : State :=
  match s.engine.pendingGait with
  | some g => ({ s with engine := { s.engine with current := g, pendingGait := none } } : State).repark
  | none => s

/-- A STOP entry at the top that has not finished completes and is popped (R114, R149). -/
def State.completeStop (s : State) : State :=
  match s.arbiter.stack with
  | e :: _ => if e.action = .stop ∧ s.unit.finished = .clear then s.popTop .complete else s
  | [] => s

/-- The supervisor enters STANDING from STOPPING (R149): the engine's response, the top STOP's completion, and a pending reset.
DESIGN CHOICE (log 15): STATE-CHANGE is posted before the STOP's REFLEX-DONE. -/
def State.standFromStopping (s : State) : State :=
  let s1 := ({ s with
    sup := { s.sup with op := .standing }
    engine := { s.engine with rate := 0 }
    wires := { s.wires with allParked := false } } : State).alertState .standing .stopping none
  let s2 := s1.applyPendingStanding.completeStop
  if s2.sup.resetPending then s2.applyReset else s2

/-- A playing, unparked slot whose bank has an empty swing window parks where it is (R36). -/
def State.parkEmpty (s : State) (l : LegId) : Slot :=
  let sl := s.engine.slots.get l
  if s.playing l = true ∧ sl.parked = none ∧ (s.header sl.bank).emptyWindow = true then
    { sl with parked := some sl.phase, swing := false }
  else sl

/-- The supervisor enters STOPPING from WALKING (R150): the engine parks the legs whose banks have an empty swing window, and
when every playing leg is parked the supervisor passes on to STANDING at once. -/
def State.enterStopping (s : State) : State :=
  let s1 := ({ s with sup := { s.sup with op := .stopping } } : State).alertState .stopping .walking none
  let s2 : State := { s1 with engine := { s1.engine with slots := .ofFn s1.parkEmpty } }
  if s2.everyPlayingParked then s2.standFromStopping else s2

/-- A stop request is acted on: in WALKING the supervisor enters STOPPING; in any other state nothing changes (R150). -/
def State.doStop (s : State) : State := if s.sup.op = .walking then s.enterStopping else s

/-- The supervisor enters WALKING (R149): a relevel capture is abandoned, and a top STOP asks again (R114). DESIGN CHOICE (log 15):
STATE-CHANGE is posted before RELEVEL-ABORTED. -/
def State.enterWalking (s : State) : State :=
  let s1 := ({ s with sup := { s.sup with op := .walking } } : State).alertState .walking s.sup.op none
  let s2 := s1.abortRelevel
  match s2.arbiter.stack with
  | e :: _ => if e.action = .stop ∧ s2.unit.finished = .clear then s2.askStop else s2
  | [] => s2

/-- Two or more FAULTED legs in STANDING, WALKING or STOPPING bring SAFE with FREEZE posture (R156). -/
def State.multiFaultTest (s : State) : State :=
  if 2 ≤ faultedCount s.sup.modes then s.enterSafe .freeze none else s

/-- The supervisor acts on a drive failure of a leg (R155). With `raiseFirst` the arbiter takes the DRIVE-FAULT raise before the
test of R156; otherwise the raise is still on its way when the test is made (R100; log 16). -/
def State.driveFailure (s : State) (leg : LegId) (value : Int) (raiseFirst : Bool) : State :=
  match s.sup.modes.get leg with
  | .active =>
    let s1 := s.changeMode leg .faulted s.engine.current
    let line := lineOf .driveFault leg
    let s2 := if raiseFirst then s1.takeRaise { line := line, value := value, tag := s1.ring.tag } else s1.sendRaise line value
    s2.multiFaultTest
  | .strut => (s.alert .legFault (.leg leg) (.mode .strut) 0).enterSafe .freeze none
  | .stowed => s.alert .legFault (.leg leg) (.mode .stowed) 0
  | .faulted => s

/-- Standing is started afresh by RELEASE or RESUME (R152, R153): the previous-valid flags are cleared, the reach-holds become 0,
the slots are re-derived and every playing leg is parked at touchdown, r becomes 0, and the FALL arm is armed. -/
def State.startStanding (s : State) : State :=
  let s1 : State := { s with
    sup := { s.sup with op := .standing, posture := none }
    shaper := .ofFn fun l => { s.shaper.get l with prevValid := false }
    unit := { s.unit with reachHold := .all 0 }
    engine := { s.engine with rate := 0 }
    balance := { s.balance with fallArm := true } }
  s1.repark.alertState .standing s.sup.op none

end Sys2Proof.Machine
end

