-- ==== Sys2Proof/Machine/BalanceUnit.lean ====
section
/-!
DEFINITION. The balance unit (chapter 4): BODY_RECORD, and the rows that name what a body slot brings about (BODY_BLIND,
RELEVEL_COMPLETE). The offsets of R75 and R76 stand in Flags.lean.
-/

namespace Sys2Proof.Machine

/-- A body slot is usable when it is fresh and its valid flag is set (R65). -/
def BodySlot.usable : BodySlot → Bool
  | .stale => false
  | .fresh r => r.valid

/-- Stage 1 of R65: the held values. -/
def Balance.hold (b : Balance) (r : BodyRec) : Balance :=
  { b with heldPitch := r.pitch, heldRoll := r.roll, heldPitchRate := clampI r.pitchRate (-32767) 32767
           heldRollRate := clampI r.rollRate (-32767) 32767, unusable := 0 }

/-- Stage 3 of R65: blindness ends (R67). -/
def State.endBlindness (s : State) : State :=
  if s.balance.blind then
    ({ s with balance := { s.balance with blind := false } } : State).alert .bodyRestored .none .none 0
  else s

/-- The reference a completed capture sets (R70). -/
def Balance.captureReference (b : Balance) (pitchSum rollSum : Int) : Balance :=
  let p := clampI (floorDiv pitchSum Config.relevelRecords) (-436) 436
  { b with refPitch := p, refRoll := clampI (floorDiv rollSum Config.relevelRecords) (-436) 436, refSource := .captured
           band := bandFor p b.t1 b.t2 b.t3, relevel := none }

/-- Stage 4 of R65: a relevel capture in progress takes the record; the sixteenth completes it (R70). -/
def Balance.relevelTakes (b : Balance) (r : BodyRec) : Balance :=
  match b.relevel with
  | none => b
  | some k =>
    if k.taken + 1 = Config.relevelRecords then b.captureReference (k.pitchSum + r.pitch) (k.rollSum + r.roll)
    else { b with relevel := some { taken := k.taken + 1, pitchSum := k.pitchSum + r.pitch, rollSum := k.rollSum + r.roll } }

/-- The larger magnitude of the two attitude errors (R77). -/
def Balance.tiltError (b : Balance) : Nat := max b.pitchError.natAbs b.rollError.natAbs

/-- The larger of the two unclamped deviations (R78). -/
def Balance.deviation (b : Balance) : Nat := max (b.heldPitch - b.refPitch).natAbs (b.heldRoll - b.refRoll).natAbs

/-- The TILT test (R77). -/
def State.tiltTest (s : State) : State :=
  if s.balance.tiltWarning < s.balance.tiltError then
    (if s.sup.op.isLive = true ∧ s.balance.tiltArm = true then
      ({ s with balance := { s.balance with tiltArm := false } } : State).sendRaise 6 s.balance.tiltError
     else s)
  else { s with balance := { s.balance with tiltArm := true } }

/-- The FALL test (R78). -/
def State.fallTest (s : State) : State :=
  if s.balance.fallLimit < s.balance.deviation then
    (if s.sup.op.isLive = true ∧ s.balance.fallArm = true then
      ({ s with balance := { s.balance with fallArm := false } } : State).sendRaise 4 s.balance.deviation
     else s)
  else { s with balance := { s.balance with fallArm := true } }

/-- A usable body record, in the stages of R65. -/
def State.usableBody (s : State) (r : BodyRec) : State :=
  let s1 := ({ s with balance := s.balance.hold r } : State).endBlindness
  ({ s1 with balance := s1.balance.relevelTakes r } : State).tiltTest.fallTest

/-- The unit becomes blind at an unusable slot, by the stale limit that its sweep return had (R66). -/
def State.goesBlind (s : State) (staleLimit : Nat) : Bool :=
  staleLimit ≤ satSucc s.balance.unusable 15 && !s.balance.blind

/-- An unusable body slot, with the stale limit of its sweep return (R66). -/
def State.unusableBody (s : State) (staleLimit : Nat) : State :=
  let n := satSucc s.balance.unusable 15
  let s1 := ({ s with balance := { s.balance with unusable := n } } : State).abortRelevel
  if s.goesBlind staleLimit then
    ({ s1 with balance := { s1.balance with blind := true } } : State).alert .bodyBlind .none .none n
  else s1

/-- The balance unit takes a body slot (R65, R66). -/
def State.takeBody (s : State) (b : HandedBody) : State :=
  match b.slot with
  | .stale => s.unusableBody b.staleLimit
  | .fresh r => if r.valid then s.usableBody r else s.unusableBody b.staleLimit

/-- The oldest body slot leaves the wire. -/
def State.dropBody (s : State) (rest : List HandedBody) : State := { s with wires := { s.wires with bodySlots := rest } }

/-- The oldest body slot is taken where `due` holds of it; else nothing happens (log 3, log 4). -/
def State.takeBodyIf (s : State) (due : HandedBody → Bool) : Host.Outcome State Fault Refusal :=
  match s.wires.bodySlots with
  | [] => .next s
  | b :: rest => if due b then .next ((s.dropBody rest).takeBody b) else .next s

/-- BODY_RECORD (R65). -/
def execBodyRecord (s : State) : Host.Outcome State Fault Refusal := s.takeBodyIf fun _ => true

/-- BODY_BLIND (R66). -/
def execBodyBlind (s : State) : Host.Outcome State Fault Refusal :=
  s.takeBodyIf fun b => !b.slot.usable && s.goesBlind b.staleLimit

/-- RELEVEL_COMPLETE (R70). -/
def execRelevelComplete (s : State) : Host.Outcome State Fault Refusal :=
  s.takeBodyIf fun b => b.slot.usable && s.balance.relevel.any fun k => k.taken + 1 == Config.relevelRecords

end Sys2Proof.Machine
end

