-- ==== Sys2Proof/Machine/ContactMonitor.lean ====
section
/-!
DEFINITION. The contact monitor (chapter 3): LEG_RECORD with the stages of R45, the rows that name what a leg slot brings about
(CONTACT_CHANGE, SLIP, OVERTORQUE, BASELINE_STALE, BASELINE_CAPTURE), and ADVANCE_REPORT.
-/

namespace Sys2Proof.Machine

/-! ## Stage 1: the baseline age (R45, R50, R51) -/

/-- The baseline age counts the sweep return. -/
def LegContact.aged (c : LegContact) : LegContact := { c with age := satSucc c.age 65535 }

/-- A leg's record replaced. -/
def State.setContact (s : State) (l : LegId) (c : LegContact) : State :=
  { s with monitor := { s.monitor with legs := s.monitor.legs.set l c } }

/-- Passing from not degraded to degraded raises BASELINE-STALE where the stale arm is armed; passing back re-arms it (R51). -/
def State.staleTest (s : State) (l : LegId) (was : Bool) : State :=
  let c := s.monitor.legs.get l
  if was = false ∧ s.degraded l = true then
    (if c.staleArm then (s.setContact l { c with staleArm := false }).sendRaise (lineOf .baselineStale l) c.age else s)
  else if was = true ∧ s.degraded l = false then s.setContact l { c with staleArm := true }
  else s

/-- Stage 1 of R45. -/
def State.ageLeg (s : State) (l : LegId) : State :=
  (s.setContact l (s.monitor.legs.get l).aged).staleTest l (s.degraded l)

/-! ## Stage 2: a stale slot (R48) -/

/-- The slip counter set; at 0 its arm is re-armed (R59). -/
def LegContact.setSlip (c : LegContact) (n : Nat) : LegContact :=
  { c with slipCount := n, slipArm := c.slipArm || n == 0 }

/-- The torque counter set; at 0 its arm is re-armed (R60). -/
def LegContact.setTorque (c : LegContact) (n : Nat) : LegContact :=
  { c with torqueCount := n, torqueArm := c.torqueArm || n == 0 }

/-- A stale slot (R48). -/
def LegContact.stale (c : LegContact) : LegContact :=
  ({ c with contact := .unknown, onCount := 0, offCount := 0, capture := none }.setSlip 0).setTorque 0

/-! ## Stage 3: classification (R46, R47) -/

/-- The load of a reading (R46). -/
def LegContact.load (c : LegContact) (force : Nat) : Int := (force : Int) - c.baseline

/-- The thresholds in force: doubled while degraded (R46). -/
def thresholdFactor (deg : Bool) : Nat := if deg then 2 else 1

/-- The two counters after a fresh record: high, low or between (R46, R47). -/
def LegContact.counted (c : LegContact) (st : ContactSettings) (force : Nat) : LegContact :=
  let k := thresholdFactor (degraded c st.maxAge)
  if ((k * st.onThreshold : Nat) : Int) ≤ c.load force then { c with onCount := satSucc c.onCount 8, offCount := 0 }
  else if c.load force < ((k * st.offThreshold : Nat) : Int) then { c with offCount := satSucc c.offCount 8, onCount := 0 }
  else { c with onCount := 0, offCount := 0 }

/-- The contact that the counters now give (R47). -/
def LegContact.nextContact (c : LegContact) (st : ContactSettings) : Contact :=
  match c.contact with
  | .unknown => if st.onCount ≤ c.onCount then .loaded else if st.offCount ≤ c.offCount then .unloaded else .unknown
  | .unloaded => if st.onCount ≤ c.onCount then .loaded else .unloaded
  | .loaded => if st.offCount ≤ c.offCount then .unloaded else .loaded

/-- Stage 3: the counters, then the contact; a change sets both counters to 0, and becoming LOADED re-arms the unload arm
(R47, R58). -/
def LegContact.classified (c : LegContact) (st : ContactSettings) (force : Nat) : LegContact :=
  let c1 := c.counted st force
  let n := c1.nextContact st
  if n = c1.contact then c1
  else { c1 with contact := n, onCount := 0, offCount := 0, unloadArm := c1.unloadArm || n == .loaded }

/-- A leg that becomes LOADED finishes the PLANT that is top for it (R110). -/
def State.plantFound (s : State) (l : LegId) : State :=
  match s.arbiter.stack with
  | e :: _ =>
    if e.action = .plant ∧ e.leg = some l ∧ s.unit.finished = .clear then s.finish (.reported .complete) else s
  | [] => s

/-! ## Stage 4: the capture (R53, R54) -/

/-- Stage 4: the capture takes the record, is abandoned, or waits; the fourth sample completes it. -/
def LegContact.captured (c : LegContact) (swing : Bool) (force : Nat) : LegContact :=
  match c.capture with
  | none => c
  | some k =>
    if c.contact ≠ .unloaded then c.abandon
    else if swing then
      (if k.taken + 1 = Config.captureSamples then
        { c with baseline := (k.sum + force) / Config.captureSamples, age := 0, capture := none, staleArm := true }
       else { c with capture := some { taken := k.taken + 1, sum := k.sum + force } })
    else c

/-! ## Stage 5: the detections (R55 to R60) -/

/-- Which detections are evaluated for a leg: those of ACTIVE legs, and those that also apply to STRUT legs (R55). -/
def State.detectsAll (s : State) (l : LegId) : Bool := s.sup.op.isLive && s.sup.modes.get l == .active

/-- UNLOAD and OVERTORQUE are evaluated for ACTIVE and STRUT legs (R55). -/
def State.detectsLoad (s : State) (l : LegId) : Bool :=
  s.sup.op.isLive && (s.sup.modes.get l == .active || s.sup.modes.get l == .strut)

/-- EARLY-CONTACT (R56); `was` is the contact before stage 3. -/
def State.detectEarly (s : State) (l : LegId) (was : Contact) : State :=
  let c := s.monitor.legs.get l
  let sl := s.engine.slots.get l
  let d := fwd sl.phase (s.header sl.bank).touchdown
  if s.detectsAll l = true ∧ was ≠ .loaded ∧ c.contact = .loaded ∧ sl.swing = true
      ∧ s.monitor.settings.earlyMargin < d ∧ c.earlyArm = true then
    (s.setContact l { c with earlyArm := false }).sendRaise (lineOf .earlyContact l) d
  else s

/-- MISSED-STEP (R57). -/
def State.detectMissed (s : State) (l : LegId) : State :=
  let c := s.monitor.legs.get l
  let sl := s.engine.slots.get l
  let d := fwd (s.header sl.bank).touchdown sl.phase
  if s.detectsAll l = true ∧ sl.swing = false ∧ sl.parked = none ∧ s.monitor.settings.lateMargin < d
      ∧ c.contact = .unloaded ∧ c.missedArm = true then
    (s.setContact l { c with missedArm := false }).sendRaise (lineOf .missedStep l) d
  else s

/-- Where a loss of load counts as UNLOAD (R58, second condition). -/
def State.unloadWindow (s : State) (l : LegId) : Bool :=
  let sl := s.engine.slots.get l
  let h := s.header sl.bank
  match s.sup.modes.get l with
  | .strut => true
  | .active =>
    sl.parked.isSome
      || (!sl.swing && s.monitor.settings.lateMargin < fwd h.touchdown sl.phase
          && s.monitor.settings.unloadMargin < fwd sl.phase h.liftoff)
  | .stowed | .faulted => false

/-- UNLOAD (R58); `was` is the contact before stage 3 and `load` the load as stage 3 judged it. -/
def State.detectUnload (s : State) (l : LegId) (was : Contact) (load : Int) : State :=
  let c := s.monitor.legs.get l
  if s.detectsLoad l = true ∧ was = .loaded ∧ c.contact = .unloaded ∧ s.unloadWindow l = true ∧ c.unloadArm = true then
    (s.setContact l { c with unloadArm := false }).sendRaise (lineOf .unload l) load
  else s

/-- The magnitude of the difference between the measured HF angle and the previous HF target (R59). -/
def State.hfError (s : State) (l : LegId) (hf : Int) : Nat := (hf - (s.shaper.get l).prev.hf).natAbs

/-- A record counts toward SLIP (R59). -/
def State.slipCounts (s : State) (l : LegId) (hf : Int) : Bool :=
  !(s.engine.slots.get l).swing && (s.monitor.legs.get l).contact == .loaded && (s.shaper.get l).prevValid
    && s.monitor.settings.slipThreshold < s.hfError l hf

/-- SLIP (R59); where it is not evaluated its counter is 0 (R55). -/
def State.detectSlip (s : State) (l : LegId) (hf : Int) : State :=
  let c := s.monitor.legs.get l
  let c1 := c.setSlip (if s.detectsAll l && s.slipCounts l hf then satSucc c.slipCount 15 else 0)
  if s.monitor.settings.slipCount ≤ c1.slipCount ∧ c1.slipArm = true ∧ 0 < c1.slipCount then
    (s.setContact l { c1 with slipArm := false }).sendRaise (lineOf .slip l) (s.hfError l hf)
  else s.setContact l c1

/-- The largest torque magnitude among the joints above their limits; 0 when none is (R55, R60). -/
def overTorque (lim : PerJoint JointLimits) (t : PerJoint Int) : Nat :=
  JointId.all.foldl (fun m j =>
    if (lim.get j).torque < (t.get j).natAbs then max m (t.get j).natAbs else m) 0

/-- A record counts toward OVERTORQUE: the leg's limits are set and some joint exceeds its torque limit (R60). The value is the
largest such magnitude. -/
def State.torqueOver (s : State) (l : LegId) (t : PerJoint Int) : Nat :=
  match s.limits.get l with
  | some lim => overTorque lim t
  | none => 0

/-- OVERTORQUE (R60); where it is not evaluated its counter is 0 (R55). -/
def State.detectTorque (s : State) (l : LegId) (t : PerJoint Int) : State :=
  let c := s.monitor.legs.get l
  let c1 := c.setTorque (if s.detectsLoad l = true ∧ 0 < s.torqueOver l t then satSucc c.torqueCount 15 else 0)
  if s.monitor.settings.torqueCount ≤ c1.torqueCount ∧ c1.torqueArm = true ∧ 0 < c1.torqueCount then
    (s.setContact l { c1 with torqueArm := false }).sendRaise (lineOf .overtorque l) (s.torqueOver l t)
  else s.setContact l c1

/-! ## One leg slot, taken -/

/-- Stages 3 to 5 of R45 on a fresh record. -/
def State.freshLeg (s : State) (l : LegId) (r : LegRec) : State :=
  let c := s.monitor.legs.get l
  let c1 := c.classified s.monitor.settings r.force
  let s1 := s.setContact l c1
  let s2 := if c.contact ≠ .loaded ∧ c1.contact = .loaded then s1.plantFound l else s1
  let s3 := s2.setContact l (c1.captured (s.engine.slots.get l).swing r.force)
  let s4 := (s3.detectEarly l c.contact).detectMissed l
  let s5 := s4.detectUnload l c.contact (c.load r.force)
  (s5.detectSlip l r.hf).detectTorque l r.torques

/-- The monitor takes one leg slot (R45). -/
def State.takeSlot (s : State) (l : LegId) (slot : LegSlot) : State :=
  let s1 := s.ageLeg l
  match slot with
  | .stale => s1.setContact l (s1.monitor.legs.get l).stale
  | .fresh r => s1.freshLeg l r

/-- A leg's oldest slot leaves the wire. -/
def State.dropSlot (s : State) (l : LegId) (rest : List LegSlot) : State :=
  { s with wires := { s.wires with legSlots := s.wires.legSlots.set l rest } }

/-- A leg's oldest slot is taken where `due` holds of the state and the slot; else nothing happens (log 3, log 4). -/
def State.takeSlotIf (s : State) (l : LegId) (due : LegSlot → Bool) : Host.Outcome State Fault Refusal :=
  match s.wires.legSlots.get l with
  | [] => .next s
  | slot :: rest => if due slot then .next ((s.dropSlot l rest).takeSlot l slot) else .next s

/-- The record of a leg after stage 1 of a slot. -/
def State.agedContact (s : State) (l : LegId) : LegContact := ((s.ageLeg l).monitor.legs.get l)

/-- LEG_RECORD (R45). DESIGN CHOICE (log 46): each leg's slot is taken by a command of its own, so another command may come between two
legs' slots of one sweep return. -/
def execLegRecord (l : LegId) (s : State) : Host.Outcome State Fault Refusal := s.takeSlotIf l fun _ => true

/-- The slot's classification changes the contact. -/
def State.contactDue (s : State) (l : LegId) : LegSlot → Bool
  | .stale => false
  | .fresh r => ((s.agedContact l).classified s.monitor.settings r.force).contact != (s.agedContact l).contact

/-- CONTACT_CHANGE (R47). -/
def execContactChange (l : LegId) (s : State) : Host.Outcome State Fault Refusal := s.takeSlotIf l (s.contactDue l)

/-- Taking the slot raises a line. -/
def State.raisesOn (s : State) (l : LegId) (line : Nat) (slot : LegSlot) : Bool :=
  ((s.takeSlot l slot).wires.raises.drop s.wires.raises.length).any fun r => r.line == line

/-- SLIP (R59). -/
def execSlip (l : LegId) (s : State) : Host.Outcome State Fault Refusal := s.takeSlotIf l (s.raisesOn l (lineOf .slip l))

/-- OVERTORQUE (R60). -/
def execOvertorque (l : LegId) (s : State) : Host.Outcome State Fault Refusal :=
  s.takeSlotIf l (s.raisesOn l (lineOf .overtorque l))

/-- BASELINE_STALE (R51). -/
def execBaselineStale (l : LegId) (s : State) : Host.Outcome State Fault Refusal :=
  s.takeSlotIf l (s.raisesOn l (lineOf .baselineStale l))

/-- The slot brings the fourth sample of the leg's capture (R53). -/
def State.captureDue (s : State) (l : LegId) : LegSlot → Bool
  | .stale => false
  | .fresh r =>
    let c := (s.agedContact l).classified s.monitor.settings r.force
    match c.capture with
    | some k => c.contact == .unloaded && (s.engine.slots.get l).swing && k.taken + 1 == Config.captureSamples
    | none => false

/-- BASELINE_CAPTURE (R53). -/
def execBaselineCapture (l : LegId) (s : State) : Host.Outcome State Fault Refusal := s.takeSlotIf l (s.captureDue l)

/-! ## The report of an advance (R31, R52, R54, R56, R57, R112) -/

/-- The report starts a capture for the leg (R52). The leg must still play that bank and offset, in a state in which captures
are not abandoned (log 20). -/
def State.captureStarts (s : State) (l : LegId) (r : LegReport) : Bool :=
  r.crossing && crossesRefresh r && r.swingAfter && (s.monitor.legs.get l).contact == .unloaded && s.playing l
    && (s.engine.slots.get l).bank == r.bank && (s.engine.slots.get l).offset == r.offset && s.sup.op.isLive
where
  /-- The refresh point of the reported bank lies in 1 to r ahead of the old leg phase. -/
  crossesRefresh (r : LegReport) : Bool :=
    1 ≤ fwd r.oldPhase (s.header r.bank).refresh && fwd r.oldPhase (s.header r.bank).refresh ≤ r.rate

/-- What the monitor does with one leg's report: the arms, then an abandoned capture, then a new one. -/
def State.monitorReport (s : State) (l : LegId) (r : LegReport) : LegContact :=
  let c := s.monitor.legs.get l
  let c1 := { c with earlyArm := c.earlyArm || r.liftoff, missedArm := c.missedArm || r.touchdown }
  let c2 := if r.touchdown || r.parked || !r.kept then c1.abandon else c1
  if s.captureStarts l r then { c2 with capture := some { taken := 0, sum := 0 } } else c2

/-- One leg's report taken by the monitor and by the reflex action unit: a liftoff clears the leg's reach-hold (R112). -/
def State.takeLegReport (s : State) (l : LegId) (r : Option LegReport) : State :=
  match r with
  | none => s
  | some r =>
    let s1 := s.setContact l (s.monitorReport l r)
    if r.liftoff then { s1 with unit := { s1.unit with reachHold := s1.unit.reachHold.set l 0 } } else s1

/-- ADVANCE_REPORT (R31). -/
def execAdvanceReport (s : State) : Host.Outcome State Fault Refusal :=
  match s.wires.reports with
  | [] => .next s
  | r :: rest =>
    let s1 : State := { s with wires := { s.wires with reports := rest } }
    .next (LegId.all.foldl (fun t l => t.takeLegReport l (r.get l)) s1)

end Sys2Proof.Machine
end

