-- ==== Sys2Proof/Machine/JointRing.lean ====
section
/-!
DEFINITION. The joint ring controller (chapter 8): SWEEP_ISSUE, RING_RETURN, and the rows that name what they bring about
(RING_LOSS, RING_RESTORED).
-/

namespace Sys2Proof.Machine

/-! ## Building a sweep (R134, R136, R194) -/

/-- The two bytes of a 16-bit field, most significant first (R186). -/
def bytes16 (n : BitVec 16) : List Byte := crcBytes n

/-- The two bytes of a signed field (R186). -/
def bytesS16 (n : Int) : List Byte := bytes16 (BitVec.ofInt 16 n)

/-- The sixteen bytes of an outward slot that carries a drive record (R194). -/
def driveSlot : DriveRecord → List Byte
  | .hold tag => [0, 0, 0, 0, 0, 0, 0, 0, tag] ++ List.replicate 7 0
  | .position t k tag =>
    1 :: (bytesS16 t.ab ++ bytesS16 t.hf ++ bytesS16 t.kn ++ [BitVec.ofNat 8 k, tag] ++ List.replicate 7 0)

/-- The leg whose node sits at a ring position; none for the body node's (R135). -/
def legAt (map : PerNode Nat) (position : Nat) : Option LegId := LegId.all.find? fun l => map.legs.get l == position

/-- The outward content of a ring position: the leg's drive record, or zeros (R136, R194). -/
def State.outSlot (s : State) (position : Nat) : List Byte :=
  match legAt s.ring.legMap position with
  | some l => driveSlot (s.shaper.get l).record
  | none => List.replicate 16 0

/-- The sweep built from the drive buffer and the leg map in force (R134, R136). -/
def State.buildSweep (s : State) (tag : Byte) : RingFrame :=
  let slots := s.outSlot 1 ++ s.outSlot 2 ++ s.outSlot 3 ++ s.outSlot 4 ++ s.outSlot 5
  { tag := tag, slots := slots, crc := sweepCrc tag slots }

/-! ## Losses (R141, R142) -/

/-- The consecutive-loss count after one more loss. -/
def State.nextLoss (s : State) : Nat := satSucc s.ring.lossCount 15

/-- One more loss takes the ring DOWN (R141, R142). -/
def State.lossDue (s : State) : Bool := s.ring.up && s.ring.lossLimit ≤ s.nextLoss

/-- The sweep returns that no block has taken yet, and the phase updates not yet composed, are dropped. DESIGN CHOICE (log 41). -/
def Wires.dropReturns (w : Wires) : Wires :=
  { w with legSlots := .all [], bodySlots := [], sweepReturns := [], reflexReturns := 0, statusReturns := 0, phaseUpdates := [] }

/-- The ring goes DOWN and RING-LOSS is raised with the consecutive-loss count (R142). From here on nothing counts and nothing
composes (R32, R41, R121, R143), so what waits of earlier sweep returns goes (log 41). -/
def State.ringDown (s : State) : State :=
  ({ s with ring := { s.ring with up := false, restoration := 0 }, wires := s.wires.dropReturns } : State).sendRaise 5
    s.ring.lossCount

/-- The sweep in flight is lost (R141): the counts, the passage to DOWN, and the notice to the balance unit. -/
def State.loseSweep (s : State) : State :=
  let s1 : State :=
    if s.ring.up then { s with ring := { s.ring with inFlight := none, lossCount := s.nextLoss } }
    else { s with ring := { s.ring with inFlight := none, restoration := 0 } }
  (if s.lossDue then s1.ringDown else s1).abortRelevel

/-! ## Sweep returns (R138 to R140) -/

/-- The slot of a leg in a return, read through the map recorded for the sweep (R138). -/
def legSlotOf (f : RingFrame) (map : PerNode Nat) (l : LegId) : List Byte := ringSlot f (map.legs.get l)

/-- The slot of the body node. -/
def bodySlotOf (f : RingFrame) (map : PerNode Nat) : List Byte := ringSlot f map.body

/-- A leg's slot is fresh (R138). -/
def legFresh (f : RingFrame) (map : PerNode Nat) (l : LegId) : Bool := slotFresh (legSlotOf f map l) f.tag

/-- A stale count after a slot (R139). -/
def staleAfter (count : Nat) (fresh : Bool) : Nat := if fresh then 0 else satSucc count 15

/-- A stale slot brings the leg's count to the stale limit (R139). -/
def State.staleReached (s : State) (f : RingFrame) (map : PerNode Nat) (l : LegId) : Bool :=
  !legFresh f map l && s.ring.staleCount.legs.get l < s.ring.staleLimit
    && satSucc (s.ring.staleCount.legs.get l) 15 == s.ring.staleLimit

/-- The controller's own work on a sweep return (R139, R140). -/
def State.judgeSlots (s : State) (f : RingFrame) (map : PerNode Nat) : Ring :=
  { s.ring with
    staleCount := ⟨.ofFn fun l => staleAfter (s.ring.staleCount.legs.get l) (legFresh f map l)
                  , staleAfter s.ring.staleCount.body (slotFresh (bodySlotOf f map) f.tag)⟩
    lastFresh := .ofFn (legFresh f map)
    lossCount := 0 }

/-- What the contact monitor is handed for a leg (R140). -/
def handedSlot (f : RingFrame) (map : PerNode Nat) (l : LegId) : LegSlot :=
  if legFresh f map l then .fresh (readLegRec (legSlotOf f map l)) else .stale

/-- What the balance unit is handed (R140), with the stale limit as it stands at this sweep return (R66). -/
def handedBody (f : RingFrame) (map : PerNode Nat) (staleLimit : Nat) : HandedBody :=
  { slot := if slotFresh (bodySlotOf f map) f.tag then .fresh (readBodyRec (bodySlotOf f map)) else .stale
    staleLimit := staleLimit }

/-- The return is handed inward: each receiver finds its part on its own wire (R140; log 1). -/
def State.handInward (s : State) (f : RingFrame) (map : PerNode Nat) : Wires :=
  { s.wires with
    legSlots := .ofFn fun l => s.wires.legSlots.get l ++ [handedSlot f map l]
    driveStatus := .ofFn fun l =>
      if legFresh f map l then s.wires.driveStatus.get l ++ [readDriveStatus (legSlotOf f map l)] else s.wires.driveStatus.get l
    staleReports := .ofFn fun l =>
      if s.staleReached f map l then s.wires.staleReports.get l ++ [s.ring.staleLimit] else s.wires.staleReports.get l
    bodySlots := s.wires.bodySlots ++ [handedBody f map s.ring.staleLimit]
    sweepReturns := s.wires.sweepReturns ++ [f.tag]
    reflexReturns := s.wires.reflexReturns + 1
    statusReturns := s.wires.statusReturns + 1 }

/-- The shaper takes the three measured angles of each fresh leg record (R120). -/
def State.takeAngles (s : State) (f : RingFrame) (map : PerNode Nat) (l : LegId) : LegShape :=
  let c := s.shaper.get l
  if legFresh f map l then { c with measured := readAngles (legSlotOf f map l) } else c

/-- A pending reset's quiesce count counts the sweep return (R159). -/
def Supervisor.quiesced (p : Supervisor) : Supervisor :=
  if p.resetPending then { p with quiesce := satSucc p.quiesce Config.quiesceLimit } else p

/-- A sweep return (R138 to R140). -/
def State.sweepReturn (s : State) (f : RingFrame) (map : PerNode Nat) : State :=
  { s with
    ring := s.judgeSlots f map
    wires := s.handInward f map
    shaper := .ofFn (s.takeAngles f map)
    sup := s.sup.quiesced }

/-- The ring is restored (R144, steps 1 to 3). -/
def State.ringUp (s : State) : State :=
  ({ s with ring := { s.ring with up := true, lossCount := 0, restoration := 0 } } : State).alert .ringRestored .none .none 0

/-- A good return while the ring is DOWN (R144): the eighth restores the ring and is itself taken as a sweep return. -/
def State.goodReturn (s : State) (f : RingFrame) (map : PerNode Nat) : State :=
  if s.ring.restoration + 1 = Config.restoreCount then s.ringUp.sweepReturn f map
  else { s with ring := { s.ring with restoration := s.ring.restoration + 1 } }

/-- The flight that a return is judged against: the sweep in flight, when the header tag is its tag (R137). -/
def State.flightOf (s : State) (f : RingFrame) : Option Flight :=
  match s.ring.inFlight with
  | some fl => if f.tag = fl.tag then some fl else none
  | none => none

/-- What comes back from the ring is taken (R137). -/
def State.takeReturn (s : State) (f : RingFrame) : State :=
  match s.flightOf f with
  | none => s
  | some fl =>
    if ringCrcGood f then
      let s1 : State := { s with ring := { s.ring with inFlight := none } }
      if s.ring.up then s1.sweepReturn f fl.map else s1.goodReturn f fl.map
    else s.loseSweep

/-- The sweep timer expires (R134). -/
def State.issue (s : State) : State :=
  let s1 := if s.ring.inFlight.isSome then s.loseSweep else s
  let tag := s1.ring.tag + 1
  { s1 with ring := { s1.ring with
    tag := tag, inFlight := some { tag := tag, map := s1.ring.legMap }, timerPeriod := s1.ring.period
    lastSweep := some (s1.buildSweep tag) } }

/-- SWEEP_ISSUE (R134). -/
def execSweepIssue (s : State) : Host.Outcome State Fault Refusal := .next s.issue

/-- RING_RETURN (R137). -/
def execRingReturn (f : RingFrame) (s : State) : Host.Outcome State Fault Refusal := .next (s.takeReturn f)

/-- RING_LOSS (R142): the expiry (none) or the return with a bad CRC that loses the sweep in flight and takes the ring DOWN; where
it does neither, nothing happens (log 4). -/
def execRingLoss (ret : Option RingFrame) (s : State) : Host.Outcome State Fault Refusal :=
  match ret with
  | none => if s.ring.inFlight.isSome && s.lossDue then .next s.issue else .next s
  | some f => if (s.flightOf f).isSome && !ringCrcGood f && s.lossDue then .next (s.takeReturn f) else .next s

/-- RING_RESTORED (R144): the good return that restores the ring; any other return is no such event (log 4). -/
def execRingRestored (f : RingFrame) (s : State) : Host.Outcome State Fault Refusal :=
  if (s.flightOf f).isSome && ringCrcGood f && !s.ring.up && s.ring.restoration + 1 == Config.restoreCount then
    .next (s.takeReturn f)
  else .next s

end Sys2Proof.Machine
end

