-- ==== Sys2Proof/Machine/JointShaper.lean ====
section
/-!
DEFINITION. The joint shaper (chapter 7): the seven stages of R124 to R130, the stiffness of R131, and COMPOSITION.
-/

namespace Sys2Proof.Machine

/-! ## The stages -/

/-- A knot of a list of 32. -/
def knot (k : List Int) (i : Nat) : Int := k.getD i 0

/-- The deviation a list of knots gives at a phase (R124). -/
def interpolate (k : List Int) (p : Phase) : Int :=
  let i := p.toNat / 2048
  let f := p.toNat - 2048 * i
  knot k i + floorDiv ((knot k ((i + 1) % 32) - knot k i) * f) 2048

/-- Stage 1: the slot's deviation, negated for AB when mirrored (R124). -/
def State.deviation (s : State) (sl : Slot) (j : JointId) : Int :=
  let p := sl.parked.getD sl.phase
  let v := interpolate ((s.profile sl.bank).knots.get j) p
  if sl.mirror = true ∧ j = .ab then -v else v

/-- The direction as a factor. -/
def Direction.sign : Direction → Int
  | .forward => 1 | .backward => -1

/-- Stage 2: the scaled gait term of an ACTIVE leg (R125). -/
def State.gaitTerm (s : State) (l : LegId) (j : JointId) : Int :=
  let sl := s.engine.slots.get l
  let v := s.deviation sl j
  if (s.header sl.bank).scale.get j then floorDiv (v * s.engine.sideAmp l) 256 * s.engine.intent.direction.sign else v

/-- Knot 0 of a joint in bank 1 (R127). -/
def crouchKnot (j : JointId) : Int := knot (crouchProfile.knots.get j) 0

/-- The gait term that stage 5 blends: that of an ACTIVE leg, 0 for a STRUT leg (R127). -/
def State.blendedGait (s : State) (l : LegId) (j : JointId) : Int :=
  match s.sup.modes.get l with
  | .active => s.gaitTerm l j
  | .strut | .stowed | .faulted => 0

/-- Stages 3 to 5: the raw target (R126, R127); `prev` is the previous target after any seeding. -/
def State.rawTarget (s : State) (l : LegId) (lim : JointLimits) (j : JointId) (prev : Int) : Int :=
  if s.sup.op = .safe ∧ s.sup.posture = some .freeze then prev
  else if s.sup.modes.get l = .stowed then lim.stow
  else if s.sup.op = .safe then lim.neutral + crouchKnot j + s.balanceOffset l j + s.reflexOffset l j
  else lim.neutral + floorDiv (s.blendedGait l j * (256 - (s.unit.weight : Int)) + crouchKnot j * (s.unit.weight : Int)) 256
    + s.balanceOffset l j + s.reflexOffset l j

/-- Stage 6: the slew (R128). -/
def slew (prev raw : Int) (step : Nat) : Int := prev + clampI (raw - prev) (-(step : Int)) step

/-- The seed of a previous target for a leg whose previous-valid flag is clear (R129). -/
def LegShape.seed (c : LegShape) (lim : JointLimits) (j : JointId) : Int :=
  match c.record with
  | .hold _ => clampI (c.measured.get j) lim.min lim.max
  | .position t _ _ => t.get j

/-- The previous target that stages 5 and 6 start from (R128, R129). -/
def LegShape.start (c : LegShape) (lim : JointLimits) (j : JointId) : Int :=
  if c.prevValid then c.prev.get j else c.seed lim j

/-- Stages 1 to 7 for one joint: the target sent (R124 to R130). -/
def State.target (s : State) (l : LegId) (lims : PerJoint JointLimits) (j : JointId) : Int :=
  let lim := lims.get j
  let prev := (s.shaper.get l).start lim j
  clampI (slew prev (s.rawTarget l lim j prev) lim.maxStep) lim.min lim.max

/-- The stiffness of a POSITION record: the first row of R131 that applies. -/
def State.stiffness (s : State) (l : LegId) : Nat :=
  let sl := s.engine.slots.get l
  if s.sup.op = .safe then 15
  else if s.sup.modes.get l = .stowed then 10
  else if s.sup.modes.get l = .active ∧ sl.swing = true then (s.header sl.bank).swingStiff
  else (s.header sl.bank).stanceStiff

/-- The limits with which a leg is positioned; none where its record is HOLD (R123). -/
def State.positions (s : State) (l : LegId) : Option (PerJoint JointLimits) :=
  if s.sup.op = .config then none
  else if s.sup.modes.get l = .faulted then none
  else s.limits.get l

/-- One leg's composition: its record and the shaper's state after it (R121, R123, R130, R131). -/
def State.composeLeg (s : State) (tag : Byte) (l : LegId) : LegShape :=
  let c := s.shaper.get l
  match s.positions l with
  | none => { c with prevValid := false, record := .hold tag }
  | some lims =>
    let t : PerJoint Int := .ofFn (s.target l lims)
    { c with prev := t, prevValid := true, record := .position t (s.stiffness l) tag }

/-- COMPOSITION (R121): the four records are written together, on the oldest phase update; with none nothing happens (log 3). -/
def execComposition (s : State) : Host.Outcome State Fault Refusal :=
  match s.wires.phaseUpdates with
  | [] => .next s
  | tag :: rest =>
    .next { s with shaper := .ofFn (s.composeLeg tag), wires := { s.wires with phaseUpdates := rest } }

end Sys2Proof.Machine
end

