-- ==== Sys2Proof/Machine/PhaseEngine.lean ====
section
/-!
DEFINITION. The phase engine (chapter 2): ADVANCE, LINK_LOSS, and the taking of a stride frame's content. The command
STRIDE_FRAME itself stands in PlannerLink.lean.
-/

namespace Sys2Proof.Machine

/-! ## The advance (R28 to R32) -/

/-- Stage 1: the applied rate steps toward the target, and in STOPPING is raised to the floor (R26). -/
def State.steppedRate (s : State) : Nat :=
  let r := stepToward s.engine.rate s.engine.intent.rateTarget s.engine.walk.rateStep
  if s.sup.op = .stopping then max r s.engine.walk.rateFloor else r

/-- Stage 1: the applied amplitude steps toward its target (R27). -/
def State.steppedAmp (s : State) : Nat := stepToward s.engine.amp s.engine.intent.ampTarget s.engine.walk.ampStep

/-- The forward distance from `a` to `b` lies in 1 to `r`: the crossing test of R31, R37 and R39. -/
def crosses (a b : Phase) (r : Nat) : Bool := 1 ≤ fwd a b && fwd a b ≤ r

/-- Stage 2 for one slot: the new bank, offset and mirror flag; a parked leg takes the new touchdown phase (R34). -/
def State.wrapSlot (s : State) (entry : Nat) (l : LegId) : Slot :=
  let old := s.engine.slots.get l
  match slotMember (s.gait entry) s.sup.modes l with
  | some (m, mirror) =>
    if old.parked.isSome then parkedSlot (s.header m.bank).touchdown m mirror
    else { old with bank := m.bank, offset := m.offset, mirror := mirror }
  | none => restSlot

/-- Stage 2: the pending gait is applied at the wrap (R29, R34); the second component says that it was. -/
def State.wrapGait (s : State) (r : Nat) : State × Bool :=
  match s.engine.pendingGait with
  | some g =>
    if 65536 ≤ s.engine.master.toNat + r then
      ({ s with engine := { s.engine with current := g, pendingGait := none, slots := .ofFn (s.wrapSlot g) } }, true)
    else (s, false)
  | none => (s, false)

/-- Stages 4 and 5 for one playing slot `sl`, whose offset and bank are those after stage 2 (R30, R34, R37, R39). -/
def playSlot (op : OpState) (h : Header) (sl : Slot) (mOld mNew : Phase) (r : Nat) (wrapped : Bool) : Slot :=
  match sl.parked with
  | none =>
    let p := mNew + sl.offset
    if op = .stopping ∧ (crosses sl.phase h.touchdown r = true ∨ (wrapped = true ∧ h.emptyWindow = true)) then
      { sl with phase := p, swing := false, parked := some p }
    else { sl with phase := p, swing := h.inSwing p }
  | some at_ =>
    if op = .walking ∧ crosses (mOld + sl.offset) at_ r = true then
      let p := mNew + sl.offset
      { sl with phase := p, swing := h.inSwing p, parked := none }
    else sl

/-- Stage 6: what the engine reports of one playing slot (R31, R39, R54); `h` is the header of the bank it plays now. A swinging
leg that parks touches down only where its new phase lies outside the swing window, and a leg re-derived at a wrap crosses
nothing. -/
def legReport (h : Header) (before after : Slot) (r : Nat) (wrapped : Bool) : LegReport :=
  let kept := before.bank == after.bank && before.offset == after.offset
  { liftoff := !before.swing && after.swing, touchdown := before.swing && !after.swing && !h.inSwing after.phase
    parked := before.parked.isNone && after.parked.isSome, oldPhase := before.phase, newPhase := after.phase, rate := r
    crossing := before.parked.isNone && kept && !wrapped, kept := kept, swingAfter := after.swing, bank := after.bank
    offset := after.offset }

/-- The slot a leg holds after stages 4 and 5; a non-playing slot takes no part (R29). -/
def State.playedSlot (s : State) (mOld : Phase) (r : Nat) (wrapped : Bool) (l : LegId) : Slot :=
  let sl := s.engine.slots.get l
  if s.playing l then playSlot s.sup.op (s.header sl.bank) sl mOld (mOld + BitVec.ofNat 16 r) r wrapped else sl

/-- The report of a leg at an advance; none for a non-playing slot. -/
def State.reportFor (s : State) (before : PerLeg Slot) (r : Nat) (wrapped : Bool) (l : LegId) : Option LegReport :=
  let sl := s.engine.slots.get l
  if s.playing l then some (legReport (s.header sl.bank) (before.get l) sl r wrapped) else none

/-- An advance (R29). -/
def State.doAdvance (s : State) : State :=
  let r := s.steppedRate
  let s1 : State := { s with engine := { s.engine with rate := r, amp := s.steppedAmp } }
  let (s2, wrapped) := s1.wrapGait r
  let mOld := s2.engine.master
  let s3 : State := { s2 with engine := { s2.engine with
    master := mOld + BitVec.ofNat 16 r, slots := .ofFn (s2.playedSlot mOld r wrapped) } }
  let report : PerLeg (Option LegReport) := .ofFn (s3.reportFor s.engine.slots r wrapped)
  ({ s3 with wires := { s3.wires with reports := s3.wires.reports ++ [report] } } : State).reportParked

/-- The sweep return brings an advance: WALKING or STOPPING, and no freezing action on top (R28). -/
def State.advances (s : State) : Bool := s.sup.op.isMoving && !s.frozen

/-- The intent age and the hold-off counter count the sweep return (R41, R43). -/
def State.countReturn (s : State) : State :=
  { s with engine := { s.engine with
    intentAge := satSucc s.engine.intentAge 65535, holdOff := s.engine.holdOff - 1 } }

/-- The LINK-LOSS raise is due: WALKING, the intent age over the timeout, and armed (R42). -/
def State.linkLossDue (s : State) : Bool :=
  s.sup.op == .walking && s.engine.walk.intentTimeout < s.engine.intentAge && s.engine.linkLossArmed

/-- LINK-LOSS is raised and disarmed (R42). DESIGN CHOICE: the value is free (log 5). -/
def State.raiseLinkLoss (s : State) : State :=
  ({ s with engine := { s.engine with linkLossArmed := false }, freeDraws := s.freeDraws + 1 } : State).sendRaise 7
    (Config.linkLossValue s.freeDraws)

/-- The phase engine takes a sweep return, the one of the sweep with this tag (R28, R32, R41 to R43). -/
def State.engineReturn (s : State) (tag : Byte) : State :=
  let s1 := if s.advances then s.doAdvance else s
  let s2 := s1.countReturn
  let s3 := if s2.linkLossDue then s2.raiseLinkLoss else s2
  { s3 with wires := { s3.wires with phaseUpdates := s3.wires.phaseUpdates ++ [tag] } }

/-- The engine's part of the oldest sweep return leaves the wire. -/
def State.dropReturn (s : State) (rest : List Byte) : State :=
  { s with wires := { s.wires with sweepReturns := rest } }

/-- ADVANCE (R28). -/
def execAdvance (s : State) : Host.Outcome State Fault Refusal :=
  match s.wires.sweepReturns with
  | [] => .next s
  | tag :: rest => .next ((s.dropReturn rest).engineReturn tag)

/-- LINK_LOSS (R42): the sweep return at which the raise is due, taken; at any other nothing happens (log 4). -/
def execLinkLoss (s : State) : Host.Outcome State Fault Refusal :=
  match s.wires.sweepReturns with
  | [] => .next s
  | tag :: rest => if s.countReturn.linkLossDue then .next ((s.dropReturn rest).engineReturn tag) else .next s

/-! ## A stride frame's content (R23, R24, R33, R68) -/

/-- The frame's gait part in STANDING: a legal entry that is not the current one becomes current at once, and every playing
slot is re-parked (R20, R33). -/
def State.gaitNow (s : State) (g : Nat) : State :=
  ({ s with engine := { s.engine with current := g } } : State).repark

/-- The frame's gait part (R33). -/
def State.takeGait (s : State) (g : Nat) : State :=
  if g = s.engine.current then
    (if s.sup.op = .standing then s else { s with engine := { s.engine with pendingGait := none } })
  else if g ≤ 15 ∧ legal (s.gait g) s.sup.modes = true then
    (if s.sup.op = .standing then s.gaitNow g else { s with engine := { s.engine with pendingGait := some g } })
  else s.alert .badGait .none .none g

/-- The reference becomes the frame's, its source PLANNER, the band is selected anew, and a relevel capture is abandoned
(R68, R71, R73). -/
def State.takeReferences (s : State) (slope roll : Int) : State :=
  let b := s.balance
  let p := clampI slope (-436) 436
  ({ s with balance := { b with
    refPitch := p, refRoll := clampI roll (-436) 436, refSource := .planner, band := bandFor p b.t1 b.t2 b.t3 } }
    : State).abortRelevel

/-- The intent record after a stride frame (R23). -/
def State.newIntent (s : State) (f : Stride) : Intent :=
  { rateTarget := if f.isStop then s.engine.intent.rateTarget
      else clampN f.rate s.engine.walk.rateFloor (rateCap s.engine.walk s.sup.modes)
    ampTarget := min f.amplitude 256
    turn := clampI f.turn (-128) 127
    direction := f.direction
    stop := f.isStop }

/-- What the engine asks of the supervisor once the content is taken (R24). -/
def State.requestAfter (s : State) : State :=
  match s.sup.op, s.engine.intent.stop with
  | .standing, false => s.askWalk
  | .stopping, false => s.askWalk
  | .walking, true => s.askStop
  | _, _ => s

/-- The engine takes a stride frame's content whole (R23, R33, R43), the gait part before the request of R24. -/
def State.takeStride (s : State) (f : Stride) : State :=
  let s1 : State := { s with engine := { s.engine with intent := s.newIntent f, holdOff := f.holdOff } }
  let s2 := if f.references then s1.takeReferences f.slope f.roll else s1
  let s3 := match f.gait with
    | some g => s2.takeGait g
    | none => s2
  s3.requestAfter

end Sys2Proof.Machine
end

