-- ==== Sys2Proof/Machine/Layouts.lean ====
section
/-!
DEFINITION. The bytes of the bridge's own frames: codes (R192), alert and status payloads (R190, R191), the data of the
queries' replies (R189), and the envelope (R187).
-/

namespace Sys2Proof.Machine

/-! ## Codes (R190, R192) -/

/-- A number as one byte. -/
def byte (n : Nat) : Byte := BitVec.ofNat 8 n

/-- A flag as one byte: 1 set, 0 clear. -/
def flag (b : Bool) : Byte := if b then 1 else 0

/-- A two-byte unsigned field. -/
def field16 (n : Nat) : List Byte := bytes16 (BitVec.ofNat 16 n)

/-- The four bytes of a 32-bit field, most significant first (R186). For a set of lines, line n is bit n (R191). -/
def bytes32 (w : BitVec 32) : List Byte :=
  [(w >>> 24).setWidth 8, (w >>> 16).setWidth 8, (w >>> 8).setWidth 8, w.setWidth 8]

/-- A four-byte signed field. -/
def fieldS32 (n : Int) : List Byte := bytes32 (BitVec.ofInt 32 n)

/-- Reply codes. -/
def ReplyCode.code : ReplyCode → Nat
  | .done => 0 | .deferred => 1 | .state => 2 | .inUse => 3 | .range => 4 | .order => 5 | .notReady => 6 | .full => 7

/-- Leg modes. -/
def Mode.code : Mode → Nat
  | .active => 0 | .stowed => 1 | .strut => 2 | .faulted => 3

/-- Contacts. -/
def Contact.code : Contact → Nat
  | .unknown => 0 | .loaded => 1 | .unloaded => 2

/-- Dispositions. -/
def Disposition.code : Disposition → Nat
  | .ignored => 0 | .coalesced => 1 | .disabled => 2 | .held => 3 | .pended => 4

/-- Outcomes. -/
def EndOutcome.code : EndOutcome → Nat
  | .complete => 0 | .failed => 1 | .shed => 2 | .abandoned => 3

/-- STRIDE-IGNORED reasons. -/
def IgnoreReason.code : IgnoreReason → Nat
  | .config => 0 | .safe => 1 | .resetPending => 2

/-- Postures in the detail of STATE-CHANGE: none 0. -/
def postureCode : Option Posture → Nat
  | none => 0 | some .crouch => 1 | some .freeze => 2

/-- Maskable actions. -/
def Action.code : Action → Nat
  | .hold => 0 | .retract => 1 | .plant => 2 | .stop => 3 | .note => 4 | .crouch => 0 | .none => 0

/-- A leg's motion: 0 stance, 1 swing, 2 parked. -/
def Motion.code : Motion → Nat
  | .stance => 0 | .swing => 1 | .parked => 2

/-- Alert kinds, 1 to 14 in the order of the table of R169. -/
def AlertKind.code : AlertKind → Nat
  | .detected => 1 | .reflexTaken => 2 | .reflexDone => 3 | .hole => 4 | .legFault => 5 | .stateChange => 6
  | .bodyBlind => 7 | .bodyRestored => 8 | .relevelAborted => 9 | .ringRestored => 10 | .resetDone => 11
  | .badGait => 12 | .strideIgnored => 13 | .linkReset => 14

/-- The key byte: a line, a leg, or 255 for none (R190). -/
def Key.code : Key → Nat
  | .none => 255 | .line n => n | .leg l => l.num

/-- The detail byte; the one of a kind that carries no detail is free (log 7). -/
def Detail.code : Detail → Byte
  | .none => Config.absentDetail
  | .disposition d => byte d.code
  | .outcome o => byte o.code
  | .line n => byte n
  | .mode m => byte m.code
  | .state op p => byte (opCode op + 16 * postureCode p)
  | .reason r => byte r.code

/-- The scale mask's bits. -/
def maskCode (m : PerJoint Bool) : Nat := m.ab.toNat + 2 * m.hf.toNat + 4 * m.kn.toNat

/-! ## Payloads -/

/-- A reply payload (R189). -/
def replyPayload (r : Reply) : List Byte := [r.command, r.tag, byte r.code.code] ++ r.data

/-- An alert payload (R190). -/
def alertPayload (a : AlertEntry) : List Byte :=
  [byte a.kind.code, byte a.key.code, a.detail.code, a.tag] ++ fieldS32 a.value ++ [byte a.repeats]

/-- The twelve bytes of a leg in a status payload (R191). -/
def legImageBytes (i : LegImage) : List Byte :=
  [byte i.mode.code] ++ bytes16 i.phase ++ [byte i.motion.code, byte i.contact.code, flag i.degraded]
    ++ bytesS16 i.prev.ab ++ bytesS16 i.prev.hf ++ bytesS16 i.prev.kn

/-- A status payload (R191). -/
def statusPayload (i : StatusImage) : List Byte :=
  [byte (opCode i.op)] ++ bytes16 i.master ++ field16 i.rate ++ field16 i.amp
    ++ [byte i.current, byte (i.pendingGait.getD 255)]
    ++ legImageBytes i.legs.lf ++ legImageBytes i.legs.rf ++ legImageBytes i.legs.lh ++ legImageBytes i.legs.rh
    ++ bytesS16 i.heldPitch ++ bytesS16 i.heldRoll ++ [flag i.blind, byte i.level, byte (i.topLine.getD 255)]
    ++ bytes32 i.pending ++ [byte i.holdOff] ++ field16 i.intentAge
    ++ [byte (i.alertsDropped.toNat + 2 * i.resetDone.toNat)]

/-- A frame in its envelope (R187): start byte, payload length, kind, payload, and the CRC over length, kind and payload. -/
def envelope (kind : Byte) (payload : List Byte) : List Byte :=
  let body := [byte payload.length, kind] ++ payload
  [0xC3] ++ body ++ crcBytes (crc16 body)

/-- The bytes of the frame that carries an item (R172, R187). -/
def txBytes : TxItem → List Byte
  | .reply r => envelope 0x81 (replyPayload r)
  | .alert a => envelope 0x82 (alertPayload a)
  | .status i => envelope 0x83 (statusPayload i)

/-- The bytes of a whole sweep on the ring (R194). -/
def sweepBytes (f : RingFrame) : List Byte := [0xC3, f.tag] ++ f.slots ++ crcBytes f.crc

/-! ## The data of the queries (R11, R13, R182 to R184, R189) -/

/-- READ-BANK: the state and the parts-present set (R11). -/
def bankData : Bank → List Byte
  | .empty => [0, 0]
  | .filling h k =>
    [1, byte (h.isSome.toNat + 2 * k.ab.isSome.toNat + 4 * k.hf.isSome.toNat + 8 * k.kn.isSome.toNat)]
  | .ready _ => [2, 15]

/-- A header part's content. -/
def headerData (h : Header) : List Byte :=
  bytes16 h.liftoff ++ bytes16 h.touchdown ++ bytes16 h.refresh
    ++ [byte (maskCode h.scale), byte h.stanceStiff, byte h.swingStiff]

/-- A knot part's content: its 32 knots. -/
def knotsData (k : List Int) : List Byte := k.flatMap bytesS16

/-- The joint of parts 1 to 3 (R3). -/
def partJoint : Nat → JointId
  | 1 => .ab
  | 2 => .hf
  | _ => .kn

/-- The content of part 0 to 3 that a bank holds; none for a part it does not hold (R11). -/
def partData (b : Bank) (part : Nat) : Option (List Byte) :=
  match b with
  | .empty => none
  | .filling h k => if part = 0 then h.map headerData else (k.get (partJoint part)).map knotsData
  | .ready p => some (if part = 0 then headerData p.header else knotsData (p.knots.get (partJoint part)))

/-- A gait member: its bank and offset. -/
def memberData (m : Member) : List Byte := [byte m.bank] ++ bytes16 m.offset

/-- The kind's code. -/
def Gait.kindCode : Gait → Nat
  | .quad _ => 0 | .triF .. => 1 | .triH .. => 2

/-- READ-GAIT: the state, and the kind and members when DEFINED (R13). -/
def gaitData : Option Gait → List Byte
  | none => [0]
  | some g => [1, byte g.kindCode] ++ g.members.flatMap memberData

/-- Table WALK. -/
def walkData (w : WalkSettings) : List Byte :=
  field16 w.rateCeiling ++ field16 w.rateFloor ++ field16 w.strutCap ++ field16 w.rateStep ++ [byte w.ampStep]
    ++ field16 w.intentTimeout

/-- The six limit values of a joint. -/
def jointLimitsData (j : JointLimits) : List Byte :=
  bytesS16 j.min ++ bytesS16 j.max ++ bytesS16 j.neutral ++ bytesS16 j.stow ++ [byte j.maxStep] ++ field16 j.torque

/-- Table LIMITS of a leg: the set flag, and the eighteen values when set. -/
def limitsData : Option (PerJoint JointLimits) → List Byte
  | none => [0]
  | some l => [1] ++ jointLimitsData l.ab ++ jointLimitsData l.hf ++ jointLimitsData l.kn

/-- Table CONTACT. -/
def contactData (c : ContactSettings) : List Byte :=
  field16 c.onThreshold ++ field16 c.offThreshold ++ [byte c.onCount, byte c.offCount] ++ field16 c.earlyMargin
    ++ field16 c.lateMargin ++ field16 c.unloadMargin ++ field16 c.slipThreshold ++ [byte c.slipCount, byte c.torqueCount]
    ++ field16 c.maxAge

/-- Table ATTITUDE, as R80 lists. -/
def attitudeData (b : Balance) : List Byte :=
  [flag (b.refSource == .captured)] ++ bytesS16 b.refPitch ++ bytesS16 b.refRoll ++ [byte b.band.val, flag b.relevel.isSome]
    ++ field16 b.t1 ++ field16 b.t2 ++ field16 b.t3 ++ field16 b.tiltWarning ++ field16 b.fallLimit

/-- The five values of a joint in a band. -/
def gainsData (g : Gains) : List Byte :=
  bytesS16 g.kpPitch ++ bytesS16 g.kdPitch ++ bytesS16 g.kpRoll ++ bytesS16 g.kdRoll ++ field16 g.authority

/-- Table BAND. -/
def bandData (g : PerJoint Gains) : List Byte := gainsData g.ab ++ gainsData g.hf ++ gainsData g.kn

/-- The five settings of a maskable source. -/
def sourceData (c : SourceSettings) : List Byte :=
  [flag c.enabled, byte c.priority, byte c.action.code] ++ field16 c.duration ++ field16 c.parameter

/-- Table REFLEX, as R103 lists. DEDUCED (log 45): the eight maskable sources in the order of R82's table and R192's codes. -/
def reflexData (a : Arbiter) : List Byte :=
  sourceData a.sources.tilt ++ sourceData a.sources.linkLoss ++ sourceData a.sources.earlyContact
    ++ sourceData a.sources.missedStep ++ sourceData a.sources.unload ++ sourceData a.sources.slip
    ++ sourceData a.sources.overtorque ++ sourceData a.sources.baselineStale ++ field16 a.fallCrouch ++ [flag a.nesting]

/-- Table RING, as R146 lists. -/
def ringData (r : Ring) : List Byte :=
  [byte r.period, byte r.lossLimit, byte r.staleLimit]
    ++ r.legMap.legs.toList.map byte ++ [byte r.legMap.body] ++ [flag (!r.up), r.tag]
    ++ r.staleCount.legs.toList.map byte ++ [byte r.staleCount.body] ++ [byte r.lossCount, byte r.restoration]

/-- Table STATUS: the interval, two bytes wide as its argument is (log 10). -/
def statusData (k : Link) : List Byte := field16 k.interval

/-- READ-LEG's slot part; the phase that stands where an unparked leg has none is free (log 8). -/
def slotData (sl : Slot) : List Byte :=
  [byte sl.bank] ++ bytes16 sl.offset ++ [flag sl.mirror] ++ bytes16 sl.phase ++ [byte sl.motion.code]
    ++ bytes16 (sl.parked.getD Config.unparkedPhase)

/-- READ-LEG: the leg's record as its blocks hold it (R183). -/
def State.legData (s : State) (l : LegId) : List Byte :=
  let c := s.monitor.legs.get l
  let h := s.shaper.get l
  [byte (s.sup.modes.get l).code, flag (s.limits.get l).isSome] ++ slotData (s.engine.slots.get l)
    ++ [byte c.contact.code, flag (s.degraded l)] ++ field16 c.baseline ++ field16 c.age
    ++ bytesS16 h.prev.ab ++ bytesS16 h.prev.hf ++ bytesS16 h.prev.kn ++ [flag h.prevValid]
    ++ bytesS16 h.measured.ab ++ bytesS16 h.measured.hf ++ bytesS16 h.measured.kn
    ++ [flag (s.ring.lastFresh.get l)]

/-- IDENTIFY (R184). -/
def identifyData : List Byte :=
  field16 Config.partCode ++ [byte Config.revision, 4, byte Config.banks, byte Config.gaitEntries]

end Sys2Proof.Machine
end

