-- ==== Sys2Proof/Machine/PlannerLink.lean ====
section
/-!
DEFINITION. The planner link (chapter 10): BYTE_RECEIVED, FRAME_DROPPED, STRIDE_FRAME, SETUP_FRAME, SETUP_TAKE, STATUS_IMAGE,
TRANSMIT_START, FRAME_SENT and LINK_RESET.
-/

namespace Sys2Proof.Machine

/-! ## Receiving (R164) -/

/-- What the reassembly does with a byte: the new reassembly, and a frame that has arrived (the bytes after its start byte). -/
def rxByte (rx : Rx) (b : Byte) : Rx × Option (List Byte) :=
  match rx with
  | .hunting => if b = 0xC3 then (.collecting [], none) else (.hunting, none)
  | .collecting [] => if 120 < b.toNat then (.hunting, none) else (.collecting [b], none)
  | .collecting (len :: rest) =>
    let bytes := len :: (rest ++ [b])
    if bytes.length = len.toNat + 4 then (.hunting, some bytes) else (.collecting bytes, none)

/-- BYTE_RECEIVED (R164). A byte without its stop bit drops the frame being collected and is not taken as a start byte. -/
def execByteReceived (b : Byte) (stopBit : Bool) (s : State) : Host.Outcome State Fault Refusal :=
  if stopBit then
    let (rx, frame) := rxByte s.link.rx b
    .next { s with link := { s.link with rx := rx }, wires := { s.wires with arrived := s.wires.arrived ++ frame.toList } }
  else .next { s with link := { s.link with rx := .hunting } }

/-- The oldest arrived frame leaves the wire. -/
def State.dropArrived (s : State) (rest : List (List Byte)) : State := { s with wires := { s.wires with arrived := rest } }

/-- FRAME_DROPPED (R164): the oldest arrived frame is one that is dropped; nothing else changes. -/
def execFrameDropped (s : State) : Host.Outcome State Fault Refusal :=
  match s.wires.arrived with
  | [] => .next s
  | bs :: rest => if judge bs = .dropped then .next (s.dropArrived rest) else .next s

/-! ## Stride frames (R165) -/

/-- Why a stride frame is ignored as a whole; none when it is taken (R165). -/
def State.strideIgnored (s : State) (stop : Bool) : Option IgnoreReason :=
  match s.sup.op with
  | .config => some .config
  | .safe => some .safe
  | .standing | .walking => none
  | .stopping => if s.sup.resetPending && !stop then some .resetPending else none

/-- The arrival is counted (R41, R42, R165). -/
def State.countStride (s : State) : State :=
  { s with engine := { s.engine with intentAge := 0, linkLossArmed := true } }

/-- A received stride frame is counted and judged (R165). -/
def State.receiveStride (s : State) (payload : List Byte) : State :=
  let f := readStride payload
  let s1 := s.countStride
  match s.strideIgnored f.isStop with
  | some r => s1.alert .strideIgnored .none (.reason r) 0
  | none => s1.takeStride f

/-- STRIDE_FRAME (R165): the oldest arrived frame is a stride frame, received. -/
def execStrideFrame (s : State) : Host.Outcome State Fault Refusal :=
  match s.wires.arrived with
  | [] => .next s
  | bs :: rest =>
    match judge bs with
    | .stride p => .next ((s.dropArrived rest).receiveStride p)
    | .dropped | .command _ => .next s

/-! ## The inbox and the setup processor (R166, R167) -/

/-- The reply queue has a free entry: one neither holding a reply nor reserved (R166). -/
def Link.replyFree (k : Link) : Bool := k.replies.length + k.reserved.toNat < Config.replySize

/-- A received setup or query frame joins the inbox, or is answered FULL, or is dropped (R166). -/
def Link.receive (k : Link) (f : CmdFrame) : Link :=
  if k.inbox.length < Config.inboxSize then { k with inbox := k.inbox ++ [f] }
  else if k.replyFree then { k with replies := k.replies ++ [{ command := f.code, tag := f.tag, code := .full, data := [] }] }
  else k

/-- SETUP_FRAME (R166): the oldest arrived frame is a setup or query frame, received. -/
def execSetupFrame (s : State) : Host.Outcome State Fault Refusal :=
  match s.wires.arrived with
  | [] => .next s
  | bs :: rest =>
    match judge bs with
    | .command f => .next { s.dropArrived rest with link := s.link.receive f }
    | .dropped | .stride _ => .next s

/-- SETUP_TAKE (R167). -/
def execSetupTake (s : State) : Host.Outcome State Fault Refusal :=
  match s.link.busy, s.link.inbox with
  | none, f :: rest =>
    if s.link.replyFree then .next { s with link := { s.link with inbox := rest, reserved := true, busy := some f } }
    else .next s
  | _, _ => .next s

/-! ## Status images (R171) -/

/-- What an image carries of a leg. -/
def State.legImage (s : State) (l : LegId) : LegImage :=
  { mode := s.sup.modes.get l, phase := (s.engine.slots.get l).phase, motion := (s.engine.slots.get l).motion
    contact := (s.monitor.legs.get l).contact, degraded := s.degraded l, prev := (s.shaper.get l).prev }

/-- The image of the state as it stands. -/
def State.image (s : State) : StatusImage :=
  { op := s.sup.op, master := s.engine.master, rate := s.engine.rate, amp := s.engine.amp, current := s.engine.current
    pendingGait := s.engine.pendingGait, legs := .ofFn s.legImage, heldPitch := s.balance.heldPitch
    heldRoll := s.balance.heldRoll, blind := s.balance.blind, level := s.arbiter.level
    topLine := s.arbiter.top.map Entry.line, pending := s.arbiter.pending, holdOff := s.engine.holdOff
    intentAge := s.engine.intentAge, alertsDropped := s.link.alertsDropped, resetDone := s.sup.resetDone
    dropEpoch := s.link.dropEpoch, resetEpoch := s.sup.resetEpoch }

/-- STATUS_IMAGE (R171): the link takes a sweep return for its status count; while N is above 0 the count rises, and reaching N it
fills an image and starts again from 0. -/
def execStatusImage (s : State) : Host.Outcome State Fault Refusal :=
  if s.wires.statusReturns = 0 then .next s
  else
    let s1 : State := { s with wires := { s.wires with statusReturns := s.wires.statusReturns - 1 } }
    if s.link.interval = 0 then .next s1
    else if s.link.interval ≤ s.link.statusCount + 1 then
      .next { s1 with link := { s1.link with statusCount := 0, statusBuf := some s.image } }
    else .next { s1 with link := { s1.link with statusCount := s.link.statusCount + 1 } }

/-! ## Transmitting (R161, R170, R172) -/

/-- The arbiter's choice, and the link without the chosen item: a reply, else an alert, else the image (R172). -/
def Link.choose (k : Link) : Option (TxItem × Link) :=
  match k.replies, k.alerts, k.statusBuf with
  | r :: rest, _, _ => some (.reply r, { k with replies := rest })
  | [], a :: rest, _ => some (.alert a, { k with alerts := rest })
  | [], [], some i => some (.status i, { k with statusBuf := none })
  | [], [], none => none

/-- TRANSMIT_START (R172). -/
def execTransmitStart (s : State) : Host.Outcome State Fault Refusal :=
  match s.link.sending, s.link.choose with
  | none, some (item, k) => .next { s with link := { k with sending := some item } }
  | _, _ => .next s

/-- A status frame has been sent in full: the reset-done flag and the alerts-dropped mark it carried set are cleared, unless they
have been set again since the image was filled (R161, R170, R172). -/
def State.statusSent (s : State) (i : StatusImage) : State :=
  { s with
    sup := { s.sup with
      resetDone := s.sup.resetDone && !(i.resetDone && i.resetEpoch == s.sup.resetEpoch) }
    link := { s.link with
      alertsDropped := s.link.alertsDropped && !(i.alertsDropped && i.dropEpoch == s.link.dropEpoch) } }

/-- FRAME_SENT (R172). -/
def execFrameSent (s : State) : Host.Outcome State Fault Refusal :=
  match s.link.sending with
  | none => .next s
  | some item =>
    let s1 : State := { s with link := { s.link with sending := none } }
    match item with
    | .status i => .next (s1.statusSent i)
    | .reply _ | .alert _ => .next s1

/-! ## The link reset (R173) -/

/-- LINK_RESET (R173). Frames that have arrived and are not yet judged go with the reassembly (log 22). -/
def execLinkReset (s : State) : Host.Outcome State Fault Refusal :=
  let s1 : State := { s with
    link := { s.link with rx := .hunting, inbox := [], replies := [], reserved := false, alerts := [], statusBuf := none }
    wires := { s.wires with arrived := [] } }
  .next (s1.alert .linkReset .none .none 0)

end Sys2Proof.Machine
end

