-- ==== Sys2Proof/Machine/SetupCommands.lean ====
section
/-!
DEFINITION. The setup commands (chapter 11 and the chapters of their owners) at the completion of their frame (R167, R174), and
NOT_WELL_FORMED. Each is the processor's completion of a well-formed frame of its code; with no such frame in progress nothing
happens (log 3).
-/

namespace Sys2Proof.Machine

/-! ## Completion (R167, R173, R174) -/

/-- The processor becomes idle, and the reply enters the queue in place of the reservation; with the reservation discarded by a
link reset it is dropped (R167, R173). -/
def State.reply (s : State) (f : CmdFrame) (code : ReplyCode) (data : List Byte) : State :=
  { s with link := { s.link with
    busy := none, reserved := false
    replies := if s.link.reserved then s.link.replies ++ [{ command := f.code, tag := f.tag, code := code, data := data }]
      else s.link.replies } }

/-- A refused command: its reply, and no other change (R174). -/
def State.refuse (s : State) (f : CmdFrame) (code : ReplyCode) : State := s.reply f code []

/-- The completion of the frame in progress where it is a well-formed frame of command `c`. -/
def State.completing (s : State) (c : Command) (body : CmdFrame → State) : Host.Outcome State Fault Refusal :=
  match s.link.busy with
  | some f => if readCommand f = some c then .next (body f) else .next s
  | none => .next s

/-- The first failing check decides the reply code (R174): each check is a failing condition and its code. -/
def firstFailing : List (Bool × ReplyCode) → Option ReplyCode
  | [] => none
  | (bad, code) :: rest => if bad then some code else firstFailing rest

/-- A command with its checks, and the state an accepted command leaves, answered DONE. -/
def State.checked (s : State) (f : CmdFrame) (checks : List (Bool × ReplyCode)) (accepted : State) : State :=
  match firstFailing checks with
  | some code => s.refuse f code
  | none => accepted.reply f .done []

/-- NOT_WELL_FORMED (R174). -/
def execNotWellFormed (s : State) : Host.Outcome State Fault Refusal :=
  match s.link.busy with
  | some f => if readCommand f = none then .next (s.refuse f .range) else .next s
  | none => .next s

/-- A value lies within a range. -/
def inRange (x lo hi : Int) : Bool := lo ≤ x && x ≤ hi

/-- An unsigned value lies within a range. -/
def inRangeN (x lo hi : Nat) : Bool := lo ≤ x && x ≤ hi

/-! ## Profile memory and the gait table (R5, R6, R12, R13) -/

/-- A bank replaced. -/
def State.setBank (s : State) (n : Nat) (b : Bank) : State := { s with banks := s.banks.setIfInBounds n b }

/-- A gait entry replaced. -/
def State.setGait (s : State) (n : Nat) (g : Option Gait) : State := { s with gaits := s.gaits.setIfInBounds n g }

/-- A bank number that names no loadable bank: above 63, or 0 or 1. -/
def bankOut (b : Nat) : Bool := 63 < b || b ≤ 1

/-- OPEN_BANK (R5). -/
def execOpenBank (s : State) : Host.Outcome State Fault Refusal :=
  s.completing .openBank fun f =>
    let b := u8 f.args 0
    s.checked f [(bankOut b, .range), (s.inUse b, .inUse)] (s.setBank b (.filling none (.all none)))

/-- The bank is in FILLING. -/
def Bank.isFilling : Bank → Bool
  | .filling .. => true
  | _ => false

/-- A bank with all four parts is READY; any other holds what it holds (R6). -/
def Bank.promote : Bank → Bank
  | .filling (some h) ⟨some a, some b, some c⟩ => .ready { header := h, knots := ⟨a, b, c⟩ }
  | b => b

/-- A joint's value replaced. -/
def setJoint {α : Type} (v : PerJoint α) (j : JointId) (x : α) : PerJoint α :=
  match j with
  | .ab => { v with ab := x }
  | .hf => { v with hf := x }
  | .kn => { v with kn := x }

/-- A part recorded into a FILLING bank (R6). -/
def Bank.record (b : Bank) (part : Nat) (a : List Byte) : Bank :=
  match b with
  | .filling h k =>
    if part = 0 then (Bank.filling (headerArg a) k).promote
    else (Bank.filling h (setJoint k (partJoint part) (some (knotsArg a)))).promote
  | _ => b

/-- The content of a part passes R6's check 3: a consistent header, or 32 knots within −4095 to 4095. -/
def partGood (part : Nat) (a : List Byte) : Bool :=
  if part = 0 then (headerArg a).any Header.consistent else (knotsArg a).all fun k => inRange k (-4095) 4095

/-- WRITE_PART (R6). -/
def execWritePart (s : State) : Host.Outcome State Fault Refusal :=
  s.completing .writePart fun f =>
    let b := u8 f.args 0
    let part := u8 f.args 1
    s.checked f [(bankOut b || 3 < part, .range), (!(s.bank b).isFilling, .order), (!partGood part f.args, .range)]
      (s.setBank b ((s.bank b).record part f.args))

/-- DEFINE_GAIT (R12). -/
def execDefineGait (s : State) : Host.Outcome State Fault Refusal :=
  s.completing .defineGait fun f =>
    let n := u8 f.args 0
    let g := gaitArg f.args
    let members := (g.map Gait.members).getD []
    s.checked f [(n == 0 || 15 < n || g.isNone || members.any fun m => 63 < m.bank, .range), (s.entryHeld n, .inUse),
        (members.any fun m => !(s.bank m.bank).isReady, .notReady)]
      (s.setGait n g)

/-- UNDEFINE_GAIT (R13). -/
def execUndefineGait (s : State) : Host.Outcome State Fault Refusal :=
  s.completing .undefineGait fun f =>
    let n := u8 f.args 0
    s.checked f [(n == 0 || 15 < n, .range), (s.entryHeld n, .inUse)] (s.setGait n none)

/-! ## Settings (R61, R73, R74, R79, R83, R99, R135, R145, R177 to R179) -/

/-- The six limit values of a joint lie in their ranges and their order (R177). -/
def JointLimits.good (j : JointLimits) : Bool :=
  inRange j.min (-3141) 3141 && inRange j.max (-3141) 3141 && inRange j.neutral (-3141) 3141 && inRange j.stow (-3141) 3141
    && inRangeN j.maxStep 1 200 && inRangeN j.torque 1 3000
    && inRange j.neutral j.min j.max && inRange j.stow j.min j.max

/-- SET_LIMITS (R177). -/
def execSetLimits (s : State) : Host.Outcome State Fault Refusal :=
  s.completing .setLimits fun f =>
    let lims := limitsArg f.args
    match LegId.ofNum (u8 f.args 0) with
    | some l =>
      s.checked f [(s.sup.op != .config, .state), (!(lims.toList.all JointLimits.good), .range)]
        { s with limits := s.limits.set l (some lims) }
    | none => s.checked f [(s.sup.op != .config, .state), (true, .range)] s

/-- The five values of a joint lie in their ranges (R74). -/
def Gains.good (g : Gains) : Bool :=
  inRange g.kpPitch (-4096) 4095 && inRange g.kdPitch (-4096) 4095 && inRange g.kpRoll (-4096) 4095
    && inRange g.kdRoll (-4096) 4095 && g.authority ≤ 1023

/-- A band's number, 0 to 3. -/
def bandNumber (n : Nat) : Option (Fin 4) := if h : n < 4 then some ⟨n, h⟩ else none

/-- SET_GAINS (R74). -/
def execSetGains (s : State) : Host.Outcome State Fault Refusal :=
  s.completing .setGains fun f =>
    let g : PerJoint Gains := ⟨gainsArg f.args 0, gainsArg f.args 1, gainsArg f.args 2⟩
    match bandNumber (u8 f.args 0) with
    | some n =>
      s.checked f [(!(g.toList.all Gains.good), .range)]
        { s with balance := { s.balance with bands := s.balance.bands.set n g } }
    | none => s.refuse f .range

/-- SET_BANDS (R73). -/
def execSetBands (s : State) : Host.Outcome State Fault Refusal :=
  s.completing .setBands fun f =>
    let t1 := u16 f.args 0
    let t2 := u16 f.args 2
    let t3 := u16 f.args 4
    s.checked f [(!s.sup.op.isAtRest, .state), (!(1 ≤ t1 && t1 < t2 && t2 < t3 && t3 ≤ 436), .range)]
      { s with balance := { s.balance with t1 := t1, t2 := t2, t3 := t3, band := bandFor s.balance.refPitch t1 t2 t3 } }

/-- The contact settings lie in their ranges (R61). -/
def ContactSettings.good (c : ContactSettings) : Bool :=
  inRangeN c.onThreshold 2 2000 && inRangeN c.offThreshold 1 (c.onThreshold - 1) && inRangeN c.onCount 1 8
    && inRangeN c.offCount 1 8 && c.earlyMargin ≤ 32768 && c.lateMargin ≤ 32768 && c.unloadMargin ≤ 32768
    && inRangeN c.slipThreshold 20 1000 && inRangeN c.slipCount 1 15 && inRangeN c.torqueCount 1 15
    && inRangeN c.maxAge 1000 65000

/-- The contact settings are replaced, and degraded is worked out anew for each leg (R61, R62). -/
def State.applyContact (s : State) (c : ContactSettings) : State :=
  LegId.all.foldl (fun t l => t.staleTest l (s.degraded l)) { s with monitor := { s.monitor with settings := c } }

/-- SET_CONTACT (R61, R62). -/
def execSetContact (s : State) : Host.Outcome State Fault Refusal :=
  s.completing .setContact fun f =>
    let c := contactArg f.args
    s.checked f [(!s.sup.op.isAtRest, .state), (!ContactSettings.good c, .range)] (s.applyContact c)

/-- A maskable source's settings replaced. -/
def Sources.set (c : Sources) (src : Source) (x : SourceSettings) : Sources :=
  match src with
  | .tilt => { c with tilt := x }
  | .linkLoss => { c with linkLoss := x }
  | .earlyContact => { c with earlyContact := x }
  | .missedStep => { c with missedStep := x }
  | .unload => { c with unload := x }
  | .slip => { c with slip := x }
  | .overtorque => { c with overtorque := x }
  | .baselineStale => { c with baselineStale := x }
  | .driveFault | .fall | .ringLoss => c

/-- The lines of a source, as a set. -/
def sourceLines (src : Source) : BitVec 32 :=
  (List.range 32).foldl (fun w n => if lineSource n = src then w ||| BitVec.twoPow 32 n else w) 0

/-- The five settings that a SET-REFLEX of a maskable source carries; none when one lies outside its codes or range, or when
the source has no leg and the action needs one (R82, R83). -/
def reflexArg (src : Source) (a : List Byte) : Option SourceSettings :=
  match flagArg a 1, actionArg (u8 a 3) with
  | some e, some act =>
    if inRangeN (u8 a 2) 1 7 && inRangeN (u16 a 4) 1 4095 && u16 a 6 ≤ 1023
        && !((src == .tilt || src == .linkLoss) && (act == .retract || act == .plant)) then
      some { enabled := e, priority := u8 a 2, action := act, duration := u16 a 4, parameter := u16 a 6 }
    else none
  | _, _ => none

/-- A maskable source's settings are replaced; a source now disabled loses its pending lines (R83). -/
def State.setSource (s : State) (src : Source) (x : SourceSettings) : State :=
  { s with arbiter := { s.arbiter with
    sources := s.arbiter.sources.set src x
    pending := if x.enabled then s.arbiter.pending else s.arbiter.pending &&& ~~~(sourceLines src) } }

/-- SET_REFLEX (R83). -/
def execSetReflex (s : State) : Host.Outcome State Fault Refusal :=
  s.completing .setReflex fun f =>
    if u8 f.args 0 = 8 then
      let d := u16 f.args 1
      s.checked f [(!inRangeN d 20 4095, .range)]
        ({ s with arbiter := { s.arbiter with fallCrouch := d } } : State).reexamine
    else
      match sourceArg (u8 f.args 0) with
      | some src =>
        match reflexArg src f.args with
        | some x => s.checked f [] (s.setSource src x).reexamine
        | none => s.refuse f .range
      | none => s.refuse f .range

/-- SET_ARBITER (R99). -/
def execSetArbiter (s : State) : Host.Outcome State Fault Refusal :=
  s.completing .setArbiter fun f =>
    match flagArg f.args 0 with
    | some n => s.checked f [] ({ s with arbiter := { s.arbiter with nesting := n } } : State).reexamine
    | none => s.refuse f .range

/-- SET_TILT (R79). -/
def execSetTilt (s : State) : Host.Outcome State Fault Refusal :=
  s.completing .setTilt fun f =>
    let w := u16 f.args 0
    let l := u16 f.args 2
    s.checked f [(!s.sup.op.isAtRest, .state), (!(inRangeN w 50 1000 && inRangeN l 200 1500 && w ≤ l), .range)]
      { s with balance := { s.balance with tiltWarning := w, fallLimit := l } }

/-- SET_LEG_MAP (R135). -/
def execSetLegMap (s : State) : Host.Outcome State Fault Refusal :=
  s.completing .setLegMap fun f =>
    let p := [u8 f.args 0, u8 f.args 1, u8 f.args 2, u8 f.args 3, u8 f.args 4]
    s.checked f [(s.sup.op != .config, .state), (!(p.all fun n => inRangeN n 1 5) || !decide p.Nodup, .range)]
      { s with ring := { s.ring with
        legMap := ⟨⟨u8 f.args 0, u8 f.args 1, u8 f.args 2, u8 f.args 3⟩, u8 f.args 4⟩ } }

/-- SET_RING (R145). -/
def execSetRing (s : State) : Host.Outcome State Fault Refusal :=
  s.completing .setRing fun f =>
    let p := u8 f.args 0
    let loss := u8 f.args 1
    let st := u8 f.args 2
    s.checked f [(s.sup.op != .config, .state),
        (!(inRangeN p 10 80 && inRangeN loss 1 15 && inRangeN st 1 15), .range)]
      { s with ring := { s.ring with
        period := p, lossLimit := loss, staleLimit := st, staleCount := ⟨.all 0, 0⟩, lossCount := 0 } }

/-- The walk settings lie in their ranges (R25, R178). -/
def WalkSettings.good (w : WalkSettings) : Bool :=
  inRangeN w.rateCeiling 64 2048 && inRangeN w.rateFloor 1 w.rateCeiling && inRangeN w.strutCap w.rateFloor w.rateCeiling
    && inRangeN w.rateStep 1 256 && inRangeN w.ampStep 1 64 && inRangeN w.intentTimeout 10 1000

/-- SET_WALK (R25, R178). -/
def execSetWalk (s : State) : Host.Outcome State Fault Refusal :=
  s.completing .setWalk fun f =>
    let w := walkArg f.args
    s.checked f [(!s.sup.op.isAtRest, .state), (!WalkSettings.good w, .range)]
      ({ s with engine := { s.engine with walk := w } } : State).reclampRate

/-- SET_STATUS (R179). DESIGN CHOICE (log 42): a sweep return that still waits to be counted is counted under the new N. -/
def execSetStatus (s : State) : Host.Outcome State Fault Refusal :=
  s.completing .setStatus fun f =>
    let n := u16 f.args 0
    s.checked f [(255 < n, .range)] { s with link := { s.link with interval := n, statusCount := 0 } }

/-! ## Leg modes and operating states (R69, R98, R152, R153, R157, R158) -/

/-- SET_LEG_MODE (R157). -/
def execSetLegMode (s : State) : Host.Outcome State Fault Refusal :=
  s.completing .setLegMode fun f =>
    let n := u8 f.args 2
    match LegId.ofNum (u8 f.args 0), modeArg (u8 f.args 1) with
    | some l, some m =>
      let after := s.sup.modes.set l m
      s.checked f [(s.sup.op.isMoving, .state), (15 < n || 2 ≤ outCount after, .range),
          (!legal (s.gait n) after, .notReady),
          (s.sup.op != .config && (s.limits.get l).isNone && (m == .active || m == .strut), .notReady)]
        (s.changeMode l m n)
    | _, _ => s.checked f [(s.sup.op.isMoving, .state), (true, .range)] s

/-- A leg stands in the way of RELEASE: neither STOWED nor FAULTED, and unset or without a fresh last record (R152). -/
def State.legUnready (s : State) (l : LegId) : Bool :=
  match s.sup.modes.get l with
  | .stowed | .faulted => false
  | .active | .strut => (s.limits.get l).isNone || !s.ring.lastFresh.get l

/-- The contact of every leg becomes UNKNOWN and its counters 0 (R49). -/
def LegContact.forget (c : LegContact) : LegContact := { c with contact := .unknown, onCount := 0, offCount := 0 }

/-- RELEASE (R152). With two legs FAULTED or more the entry into STANDING goes on to SAFE (R156), within the command (log 17). -/
def execRelease (s : State) : Host.Outcome State Fault Refusal :=
  s.completing .release fun f =>
    s.checked f [(s.sup.op != .config, .state), (!s.ring.up || LegId.all.any s.legUnready
        || !legal (s.gait s.engine.current) s.sup.modes, .notReady)]
      ((s.mapContacts fun _ c => c.forget).startStanding.multiFaultTest)

/-- RELEVEL (R69). -/
def execRelevel (s : State) : Host.Outcome State Fault Refusal :=
  s.completing .relevel fun f =>
    s.checked f [(s.sup.op != .standing, .state)]
      { s with balance := { s.balance with relevel := some { taken := 0, pitchSum := 0, rollSum := 0 } } }

/-- RESUME (R153). -/
def execResume (s : State) : Host.Outcome State Fault Refusal :=
  s.completing .resume fun f =>
    s.checked f [(s.sup.op != .safe, .state), (0 < faultedCount s.sup.modes
        || !legal (s.gait s.engine.current) s.sup.modes || !s.ring.up, .notReady)]
      s.startStanding

/-- RESET (R158). In CONFIG, STANDING and SAFE the reset is applied once the reply has entered the queue; in WALKING and STOPPING
it is deferred. -/
def execReset (s : State) : Host.Outcome State Fault Refusal :=
  s.completing .reset fun f =>
    match s.sup.op with
    | .config | .standing | .safe => (s.reply f .done []).applyReset
    | .walking =>
      ({ s.reply f .deferred [] with sup := { s.sup with resetPending := true, quiesce := 0 } } : State).enterStopping
    | .stopping =>
      if s.sup.resetPending then s.reply f .deferred []
      else { s.reply f .deferred [] with sup := { s.sup with resetPending := true, quiesce := 0 } }

/-- The hard lines, 0 to 5, as a set. -/
def hardLines : BitVec 32 := 0x3F

/-- CLEAR_PENDING (R98). -/
def execClearPending (s : State) : Host.Outcome State Fault Refusal :=
  s.completing .clearPending fun f =>
    s.checked f [] { s with arbiter := { s.arbiter with pending := s.arbiter.pending &&& hardLines } }

end Sys2Proof.Machine
end

