-- ==== Sys2Proof/Machine/Queries.lean ====
section
/-!
DEFINITION. The queries (R11, R13, R181 to R184) at the completion of their frame. A query changes nothing but the link's own
queue and processor.
-/

namespace Sys2Proof.Machine

/-- READ_BANK (R11). -/
def execReadBank (s : State) : Host.Outcome State Fault Refusal :=
  s.completing .readBank fun f =>
    let b := u8 f.args 0
    if 63 < b then s.refuse f .range else s.reply f .done (bankData (s.bank b))

/-- READ_PART (R11). -/
def execReadPart (s : State) : Host.Outcome State Fault Refusal :=
  s.completing .readPart fun f =>
    let b := u8 f.args 0
    let part := u8 f.args 1
    if 63 < b ∨ 3 < part then s.refuse f .range
    else
      match partData (s.bank b) part with
      | some d => s.reply f .done d
      | none => s.refuse f .order

/-- READ_GAIT (R13). -/
def execReadGait (s : State) : Host.Outcome State Fault Refusal :=
  s.completing .readGait fun f =>
    let n := u8 f.args 0
    if 15 < n then s.refuse f .range else s.reply f .done (gaitData (s.gait n))

/-- The contents of a table; none for an unknown name or an index outside its range (R182, R192). -/
def State.tableData (s : State) (a : List Byte) : Option (List Byte) :=
  match u8 a 0 with
  | 0 => some (walkData s.engine.walk)
  | 1 => (LegId.ofNum (u8 a 1)).map fun l => limitsData (s.limits.get l)
  | 2 => some (contactData s.monitor.settings)
  | 3 => some (attitudeData s.balance)
  | 4 => (bandNumber (u8 a 1)).map fun n => bandData (s.balance.bands.get n)
  | 5 => some (reflexData s.arbiter)
  | 6 => some (ringData s.ring)
  | 7 => some (statusData s.link)
  | _ => none

/-- READ_TABLE (R182). -/
def execReadTable (s : State) : Host.Outcome State Fault Refusal :=
  s.completing .readTable fun f =>
    match s.tableData f.args with
    | some d => s.reply f .done d
    | none => s.refuse f .range

/-- READ_LEG (R183). -/
def execReadLeg (s : State) : Host.Outcome State Fault Refusal :=
  s.completing .readLeg fun f =>
    match LegId.ofNum (u8 f.args 0) with
    | some l => s.reply f .done (s.legData l)
    | none => s.refuse f .range

/-- IDENTIFY (R184). -/
def execIdentify (s : State) : Host.Outcome State Fault Refusal :=
  s.completing .identify fun f => s.reply f .done identifyData

end Sys2Proof.Machine
end

