-- ==== Sys2Proof/Machine/ReflexActions.lean ====
section
/-!
DEFINITION. The reflex action unit's counting of sweep returns (chapter 6): REFLEX_STEP, and the rows that name how a step
finishes an action (HOLD_COMPLETE, RETRACT_COMPLETE, PLANT_FAILED, CROUCH_COMPLETE).
-/

namespace Sys2Proof.Machine

/-- A PLANT's limit (R109). -/
def Entry.plantLimit (e : Entry) : Nat := min (e.parameter * e.duration) 1023

/-- A PLANT's reach after one more counted sweep return (R109). -/
def Entry.grownReach (e : Entry) : Nat := min (e.reach + e.parameter) 1023

/-- The blend weight at a progress (R115). -/
def crouchWeight (progress duration : Nat) : Nat := min 256 (256 * progress / duration)

/-- The top entry after one more counted sweep return: its progress, and a PLANT's reach with the contribution −reach (R106,
R109). -/
def Entry.stepped (e : Entry) : Entry :=
  let e1 := { e with progress := e.progress + 1 }
  match e.action with
  | .plant => { e1 with reach := e.grownReach, contribution := -(e.grownReach : Int) }
  | .hold | .retract | .stop | .note | .crouch | .none => e1

/-- This counted sweep return finishes the action (R107, R108, R109, R115). -/
def Entry.finishes (e : Entry) : Bool :=
  match e.action with
  | .hold | .retract => e.duration ≤ e.progress + 1
  | .plant => e.plantLimit ≤ e.grownReach
  | .crouch => crouchWeight (e.progress + 1) e.duration == 256
  | .stop | .note | .none => false

/-- A finished HOLD: a DRIVE-FAULT entry asks for SAFE, any other reports COMPLETE (R107, R116). -/
def State.holdFinished (s : State) (e : Entry) : State :=
  match lineSource e.line, e.leg with
  | .driveFault, some l => (s.askSafe (.driveFaultHold l)).finish .askedSafe
  | _, _ => s.finish (.reported .complete)

/-- A PLANT that failed: the HOLE alert, the stop request, and the report (R111). The reach passes into the reach-hold when the
entry leaves the stack (R112). -/
def State.plantFailed (s : State) (e : Entry) : State :=
  match e.leg with
  | some l => ((s.alert .hole (.leg l) (.line e.line) e.reach).askStop).finish (.reported .failed)
  | none => s.askStop.finish (.reported .failed)

/-- What the unit makes of a finished action. -/
def State.actionFinished (s : State) (e : Entry) : State :=
  match e.action with
  | .hold => s.holdFinished e
  | .retract => s.finish (.reported .complete)
  | .plant => s.plantFailed e
  | .crouch => (s.askSafe .fallCrouch).finish .askedSafe
  | .stop | .note | .none => s

/-- The blend weight after the step (R115). -/
def State.stepWeight (s : State) (e : Entry) : State :=
  if e.action = .crouch then { s with unit := { s.unit with weight := crouchWeight e.progress e.duration } } else s

/-- The unit takes one sweep return (R106). -/
def State.reflexReturn (s : State) : State :=
  match s.arbiter.stack with
  | [] => s
  | e :: _ =>
    if s.unit.finished = .clear then
      let s1 := (s.setTop e.stepped).stepWeight e.stepped
      if e.finishes then s1.actionFinished e.stepped else s1
    else s

/-- A sweep return is taken from the wire where `due` holds; else nothing happens (log 3, log 4). -/
def State.reflexIf (s : State) (due : Bool) : Host.Outcome State Fault Refusal :=
  if s.wires.reflexReturns = 0 then .next s
  else if due then
    .next (({ s with wires := { s.wires with reflexReturns := s.wires.reflexReturns - 1 } } : State).reflexReturn)
  else .next s

/-- The top entry has not finished, has this action, and this sweep return finishes it. -/
def State.finishesTop (s : State) (a : Action) : Bool :=
  s.unit.finished == .clear && s.arbiter.top.any fun e => e.action == a && e.finishes

/-- REFLEX_STEP (R106). -/
def execReflexStep (s : State) : Host.Outcome State Fault Refusal := s.reflexIf true

/-- HOLD_COMPLETE (R107). -/
def execHoldComplete (s : State) : Host.Outcome State Fault Refusal := s.reflexIf (s.finishesTop .hold)

/-- RETRACT_COMPLETE (R108). -/
def execRetractComplete (s : State) : Host.Outcome State Fault Refusal := s.reflexIf (s.finishesTop .retract)

/-- PLANT_FAILED (R111). -/
def execPlantFailed (s : State) : Host.Outcome State Fault Refusal := s.reflexIf (s.finishesTop .plant)

/-- CROUCH_COMPLETE (R115). -/
def execCrouchComplete (s : State) : Host.Outcome State Fault Refusal := s.reflexIf (s.finishesTop .crouch)

end Sys2Proof.Machine
end

