-- ==== Sys2Proof/Machine/ReflexArbiter.lean ====
section
/-!
DEFINITION. The reflex arbiter's commands (chapter 5): RAISE and POP. The dispositions stand in Flags.lean, the taking of lines
and the stack in Ops.lean.
-/

namespace Sys2Proof.Machine

/-- The oldest waiting raise of a line, and the raises that remain without it. -/
def pickRaise (line : Nat) : List Raise → Option (Raise × List Raise)
  | [] => none
  | r :: rest =>
    if r.line = line then some (r, rest)
    else (pickRaise line rest).map fun p => (p.1, r :: p.2)

/-- RAISE (R87): the arbiter takes the oldest waiting raise of the line; with none waiting nothing happens (log 3). -/
def execRaise (line : Nat) (s : State) : Host.Outcome State Fault Refusal :=
  match pickRaise line s.wires.raises with
  | some (r, rest) => .next (({ s with wires := { s.wires with raises := rest } } : State).takeRaise r)
  | none => .next s

/-- POP (R95): the arbiter takes the unit's report that the top entry has finished; with no report nothing happens (log 3). -/
def execPop (s : State) : Host.Outcome State Fault Refusal :=
  match s.unit.finished with
  | .reported o => .next (s.popTop o)
  | .clear | .askedSafe => .next s

end Sys2Proof.Machine
end

