-- ==== Sys2Proof/Machine/Supervisor.lean ====
section
/-!
DEFINITION. The supervisor's commands that no frame carries (chapter 9): POWER_ON, DRIVE_STATUS, STALE_LIMIT, WALK_REQUEST,
STOP_REQUEST, ALL_PARKED, SAFE_REQUEST and QUIESCE_EXPIRY. The changes of state themselves stand in Ops.lean.
-/

namespace Sys2Proof.Machine

/-- POWER_ON (R148): every table and every piece of runtime state takes its power-on value. The commands that wait and the count
of free values drawn are the model's own and are kept (log 36). -/
def execPowerOn (s : State) : Host.Outcome State Fault Refusal :=
  .next { State.reset with pending := s.pending, freeDraws := s.freeDraws }

/-- The supervisor takes a drive status (R155): FAULT is a drive failure. The number that stands for the status in a raise is
free (log 6). -/
def State.takeDriveStatus (s : State) (l : LegId) (b : Byte) (raiseFirst : Bool) : State :=
  if statusIsFault b then s.driveFailure l (Config.driveStatusValue b) raiseFirst else s

/-- DRIVE_STATUS (R155): a leg's oldest drive status is taken; with none nothing happens (log 3). -/
def execDriveStatus (l : LegId) (raiseFirst : Bool) (s : State) : Host.Outcome State Fault Refusal :=
  match s.wires.driveStatus.get l with
  | [] => .next s
  | b :: rest =>
    .next (({ s with wires := { s.wires with driveStatus := s.wires.driveStatus.set l rest } } : State).takeDriveStatus l b
      raiseFirst)

/-- STALE_LIMIT (R139, R155): the report that the leg has reached the stale limit is a drive failure whose value is the stale
count; with no report nothing happens (log 3). -/
def execStaleLimit (l : LegId) (raiseFirst : Bool) (s : State) : Host.Outcome State Fault Refusal :=
  match s.wires.staleReports.get l with
  | [] => .next s
  | n :: rest =>
    .next (({ s with wires := { s.wires with staleReports := s.wires.staleReports.set l rest } } : State).driveFailure l n
      raiseFirst)

/-- A walk request acted on (R149): in STANDING and STOPPING, with no reset pending, the supervisor enters WALKING. -/
def State.doWalk (s : State) : State :=
  if (s.sup.op = .standing ∨ s.sup.op = .stopping) ∧ s.sup.resetPending = false then s.enterWalking else s

/-- WALK_REQUEST (R149). -/
def execWalkRequest (s : State) : Host.Outcome State Fault Refusal :=
  if s.wires.walkRequests = 0 then .next s
  else .next (({ s with wires := { s.wires with walkRequests := s.wires.walkRequests - 1 } } : State).doWalk)

/-- STOP_REQUEST (R150). -/
def execStopRequest (s : State) : Host.Outcome State Fault Refusal :=
  if s.wires.stopRequests = 0 then .next s
  else .next (({ s with wires := { s.wires with stopRequests := s.wires.stopRequests - 1 } } : State).doStop)

/-- ALL_PARKED (R149): in STOPPING the supervisor enters STANDING; in any other state the report changes nothing. A report that
has waited is acted on only while every playing leg is still parked (log 28). -/
def execAllParked (s : State) : Host.Outcome State Fault Refusal :=
  if s.wires.allParked then
    let s1 : State := { s with wires := { s.wires with allParked := false } }
    if s.sup.op = .stopping ∧ s.everyPlayingParked = true then .next s1.standFromStopping else .next s1
  else .next s

/-- The line of the entry that a SAFE request comes from. -/
def SafeCause.line : SafeCause → Nat
  | .fallCrouch => lineOf .fall .lf
  | .driveFaultHold l => lineOf .driveFault l

/-- The posture a SAFE request asks for (R116, R151). -/
def SafeCause.posture : SafeCause → Posture
  | .fallCrouch => .crouch
  | .driveFaultHold _ => .freeze

/-- SAFE_REQUEST (R151): the supervisor takes the waiting request of this cause; with none waiting nothing happens (log 3). -/
def execSafeRequest (c : SafeCause) (s : State) : Host.Outcome State Fault Refusal :=
  if s.wires.safeRequests.contains c then
    .next (({ s with wires := { s.wires with safeRequests := s.wires.safeRequests.erase c } } : State).enterSafe
      (Machine.SafeCause.posture c) (some (Machine.SafeCause.line c)))
  else .next s

/-- QUIESCE_EXPIRY (R159): the quiesce count of a pending reset stands at 4000, and the reset is applied. DESIGN CHOICE (log 43): the
sweep return that brings the count to 4000 is RING_RETURN, and other commands may come between the two. -/
def execQuiesceExpiry (s : State) : Host.Outcome State Fault Refusal :=
  if s.sup.resetPending = true ∧ s.sup.quiesce = Config.quiesceLimit then .next s.applyReset else .next s

end Sys2Proof.Machine
end

