-- ==== Sys2Proof/Machine/Dispatch.lean ====
section
/-!
DEFINITION. The dispatch: one arm for each command of the opcode table.
-/

namespace Sys2Proof.Machine

def exec (i : Instr) (s : State) : Host.Outcome State Fault Refusal :=
  match i with
  | .powerOn => Sys2Proof.Machine.execPowerOn s
  | .sweepIssue => Sys2Proof.Machine.execSweepIssue s
  | .ringReturn f => Sys2Proof.Machine.execRingReturn f s
  | .staleLimit leg raiseFirst => Sys2Proof.Machine.execStaleLimit leg raiseFirst s
  | .ringLoss ret => Sys2Proof.Machine.execRingLoss ret s
  | .ringRestored f => Sys2Proof.Machine.execRingRestored f s
  | .legRecord leg => Sys2Proof.Machine.execLegRecord leg s
  | .contactChange leg => Sys2Proof.Machine.execContactChange leg s
  | .slip leg => Sys2Proof.Machine.execSlip leg s
  | .overtorque leg => Sys2Proof.Machine.execOvertorque leg s
  | .baselineStale leg => Sys2Proof.Machine.execBaselineStale leg s
  | .baselineCapture leg => Sys2Proof.Machine.execBaselineCapture leg s
  | .advanceReport => Sys2Proof.Machine.execAdvanceReport s
  | .bodyRecord => Sys2Proof.Machine.execBodyRecord s
  | .bodyBlind => Sys2Proof.Machine.execBodyBlind s
  | .relevelComplete => Sys2Proof.Machine.execRelevelComplete s
  | .driveStatus leg raiseFirst => Sys2Proof.Machine.execDriveStatus leg raiseFirst s
  | .advance => Sys2Proof.Machine.execAdvance s
  | .linkLoss => Sys2Proof.Machine.execLinkLoss s
  | .composition => Sys2Proof.Machine.execComposition s
  | .reflexStep => Sys2Proof.Machine.execReflexStep s
  | .holdComplete => Sys2Proof.Machine.execHoldComplete s
  | .retractComplete => Sys2Proof.Machine.execRetractComplete s
  | .plantFailed => Sys2Proof.Machine.execPlantFailed s
  | .crouchComplete => Sys2Proof.Machine.execCrouchComplete s
  | .raise line => Sys2Proof.Machine.execRaise line s
  | .pop => Sys2Proof.Machine.execPop s
  | .walkRequest => Sys2Proof.Machine.execWalkRequest s
  | .stopRequest => Sys2Proof.Machine.execStopRequest s
  | .allParked => Sys2Proof.Machine.execAllParked s
  | .safeRequest cause => Sys2Proof.Machine.execSafeRequest cause s
  | .quiesceExpiry => Sys2Proof.Machine.execQuiesceExpiry s
  | .strideFrame => Sys2Proof.Machine.execStrideFrame s
  | .frameDropped => Sys2Proof.Machine.execFrameDropped s
  | .setupFrame => Sys2Proof.Machine.execSetupFrame s
  | .setupTake => Sys2Proof.Machine.execSetupTake s
  | .openBank => Sys2Proof.Machine.execOpenBank s
  | .writePart => Sys2Proof.Machine.execWritePart s
  | .defineGait => Sys2Proof.Machine.execDefineGait s
  | .undefineGait => Sys2Proof.Machine.execUndefineGait s
  | .setLimits => Sys2Proof.Machine.execSetLimits s
  | .setGains => Sys2Proof.Machine.execSetGains s
  | .setBands => Sys2Proof.Machine.execSetBands s
  | .setContact => Sys2Proof.Machine.execSetContact s
  | .setReflex => Sys2Proof.Machine.execSetReflex s
  | .setArbiter => Sys2Proof.Machine.execSetArbiter s
  | .setTilt => Sys2Proof.Machine.execSetTilt s
  | .setLegMode => Sys2Proof.Machine.execSetLegMode s
  | .setLegMap => Sys2Proof.Machine.execSetLegMap s
  | .setRing => Sys2Proof.Machine.execSetRing s
  | .setWalk => Sys2Proof.Machine.execSetWalk s
  | .setStatus => Sys2Proof.Machine.execSetStatus s
  | .release => Sys2Proof.Machine.execRelease s
  | .relevel => Sys2Proof.Machine.execRelevel s
  | .resume => Sys2Proof.Machine.execResume s
  | .reset => Sys2Proof.Machine.execReset s
  | .clearPending => Sys2Proof.Machine.execClearPending s
  | .readBank => Sys2Proof.Machine.execReadBank s
  | .readPart => Sys2Proof.Machine.execReadPart s
  | .readGait => Sys2Proof.Machine.execReadGait s
  | .readTable => Sys2Proof.Machine.execReadTable s
  | .readLeg => Sys2Proof.Machine.execReadLeg s
  | .identify => Sys2Proof.Machine.execIdentify s
  | .statusImage => Sys2Proof.Machine.execStatusImage s
  | .transmitStart => Sys2Proof.Machine.execTransmitStart s
  | .frameSent => Sys2Proof.Machine.execFrameSent s
  | .linkReset => Sys2Proof.Machine.execLinkReset s
  | .byteReceived b stopBit => Sys2Proof.Machine.execByteReceived b stopBit s
  | .notWellFormed => Sys2Proof.Machine.execNotWellFormed s

end Sys2Proof.Machine
end

