-- ==== Sys2Proof/Safety.lean ====
section
/-!
DEFINITION. What holds of the bridge at all times, in the terms the claims use: the laws the spec states, block by block, and the
ranges it gives each piece of state. Each is kept by every step and holds after reset (Certificates/Slice0/Obligations.lean).
-/

namespace Sys2Proof.Machine

/-! ## Terms the claims use -/

/-- The command of the opcode table that completes a planner's command. -/
def Command.instr : Command → Instr
  | .openBank => .openBank | .writePart => .writePart | .defineGait => .defineGait | .undefineGait => .undefineGait
  | .setLimits => .setLimits | .setGains => .setGains | .setBands => .setBands | .setContact => .setContact
  | .setReflex => .setReflex | .setArbiter => .setArbiter | .setTilt => .setTilt | .setLegMode => .setLegMode
  | .setLegMap => .setLegMap | .setRing => .setRing | .setWalk => .setWalk | .setStatus => .setStatus
  | .release => .release | .relevel => .relevel | .resume => .resume | .reset => .reset | .clearPending => .clearPending
  | .readBank => .readBank | .readPart => .readPart | .readGait => .readGait | .readTable => .readTable
  | .readLeg => .readLeg | .identify => .identify

/-- A query (R174, R189). -/
def Command.isQuery : Command → Bool
  | .readBank | .readPart | .readGait | .readTable | .readLeg | .identify => true
  | _ => false

/-- The processor is busy with a well-formed frame of this command. -/
def State.busyWith (s : State) (c : Command) (f : CmdFrame) : Prop := s.link.busy = some f ∧ readCommand f = some c

/-- Bytes received one after another, each with its stop bit. -/
def feed : List Byte → State → Host.Outcome State Fault Refusal
  | [], s => .next s
  | b :: bs, s =>
    match exec (.byteReceived b true) s with
    | .next t => feed bs t
    | .fault r => .fault r
    | .refused r => .refused r

/-- The entry an alert forms when nothing in the queue matches it (R169). -/
def newAlert (kind : AlertKind) (key : Key) (detail : Detail) (tag : Byte) (value : Int) : AlertEntry :=
  { kind := kind, key := key, detail := detail, tag := tag, value := value, repeats := 0 }

/-- The bytes of an unsigned number in two bytes, most significant first (R186). -/
def be16 (n : Nat) : List Byte := [BitVec.ofNat 8 (n / 256), BitVec.ofNat 8 n]

/-- The bytes of a signed number in two bytes, in two's complement, most significant first (R186). -/
def be16s (n : Int) : List Byte := [BitVec.ofInt 8 (n / 256), BitVec.ofInt 8 n]

/-- The bytes of a signed number in four bytes (R186). -/
def be32s (n : Int) : List Byte :=
  [BitVec.ofInt 8 (n / 16777216), BitVec.ofInt 8 (n / 65536), BitVec.ofInt 8 (n / 256), BitVec.ofInt 8 n]

/-- A flag's byte (R192). -/
def bit (b : Bool) : Byte := if b then 1 else 0

/-! ## Re-examination (R84, R90 to R92) -/

/-- The priority of a line: the fixed level of a hard line (R84), else that of its source's settings as they stand (R90). -/
def LinePriority (a : Arbiter) (n : Nat) : Nat :=
  if n ≤ 3 then 9 else if n = 4 then 10 else if n = 5 then 8 else (a.settings (lineSource n)).priority

/-- Line `c` is the candidate: the pending line of the highest priority and, among equals, of the lowest number (R90). -/
def IsCandidate (a : Arbiter) (c : Nat) : Prop :=
  c < 32 ∧ a.pending.getLsbD c = true
  ∧ ∀ n, n < 32 → a.pending.getLsbD n = true →
      LinePriority a n < LinePriority a c ∨ (LinePriority a n = LinePriority a c ∧ c ≤ n)

/-- The test of R91: with nesting on the line exceeds the override level; with nesting off the stack is empty, or the line is hard and
exceeds it. -/
def Takeable (a : Arbiter) (c : Nat) : Prop :=
  (a.nesting = true ∧ a.level < LinePriority a c)
  ∨ (a.nesting = false ∧ (a.stack = [] ∨ (c ≤ 5 ∧ a.level < LinePriority a c)))

/-- What an action's start or resumption finds at once (R105, R110, R114): a PLANT whose leg is LOADED and a STOP in STANDING have
finished. -/
def startFinish (s : State) (action : Action) (leg : Option LegId) : Finish :=
  match action, leg with
  | .plant, some l => if (s.monitor.legs.get l).contact = .loaded then .reported .complete else .clear
  | .stop, _ => if s.sup.op = .standing then .reported .complete else .clear
  | _, _ => .clear

/-- Line `c` is taken and its entry pushed (R86, R92, R105, R112): from the state `q` to the state `t`. The bottom entry of a stack of
four is shed first. -/
def LinePushed (q t : State) (c : Nat) : Prop :=
  let x := q.arbiter.settings (lineSource c)
  let shed := q.arbiter.stack[3]?
  (∀ n, t.arbiter.pending.getLsbD n = (q.arbiter.pending.getLsbD n && decide (n ≠ c)))
  ∧ t.arbiter = { q.arbiter with
      pending := t.arbiter.pending, level := LinePriority q.arbiter c
      stack := { line := c, leg := lineLeg c, priority := LinePriority q.arbiter c, action := x.action, duration := x.duration
                 parameter := x.parameter, progress := 0, reach := 0
                 contribution := if x.action = .retract then x.parameter else 0 } :: q.arbiter.stack.take 3 }
  ∧ (∀ l, t.unit.reachHold.get l = match shed with
      | some b => if b.action = .plant ∧ b.leg = some l then min (q.unit.reachHold.get l + b.reach) 1023
        else q.unit.reachHold.get l
      | none => q.unit.reachHold.get l)
  ∧ t.unit.weight = (if x.action = .crouch then 0 else q.unit.weight)
  ∧ t.unit.finished = startFinish q x.action (lineLeg c)
  ∧ t.link = (match shed with
      | some b => q.link.post (newAlert .reflexDone (.line b.line) (.outcome .shed) q.ring.tag b.progress)
      | none => q.link).post
        (newAlert .reflexTaken (.line c) .none q.ring.tag (min (q.arbiter.stack.length + 1) 4 : Nat))
  ∧ t = { q with
      arbiter := t.arbiter, unit := t.unit, link := t.link
      wires := { q.wires with stopRequests := q.wires.stopRequests + (if x.action = .stop then 1 else 0) } }

/-! ## What an applied soft reset and an entry into SAFE leave (R160, R96) -/

/-- What an applied soft reset leaves (R160, with R10, R14, R21, R44, R64, R73, R82, R85, R97, R104, R120, R133, R147, R163): runtime state
at its reset values, tables and settings kept, STOWED and STRUT legs kept and FAULTED ones ACTIVE. -/
def SoftResetLeaves (s t : State) : Prop :=
  t.sup.op = .config ∧ t.sup.posture = none ∧ t.sup.resetPending = false ∧ t.sup.quiesce = 0 ∧ t.sup.resetDone = true
  ∧ (∀ l, t.sup.modes.get l = if s.sup.modes.get l = .faulted then .active else s.sup.modes.get l)
  ∧ t.engine.current = 0 ∧ t.engine.pendingGait = none ∧ (∀ l, t.engine.slots.get l = restSlot)
  ∧ t.engine.rate = 0 ∧ t.engine.amp = 0 ∧ t.engine.master = 0 ∧ t.engine.intentAge = 0 ∧ t.engine.holdOff = 0
  ∧ t.engine.linkLossArmed = true ∧ t.engine.walk = s.engine.walk
  ∧ t.engine.intent = { rateTarget := s.engine.walk.rateFloor, ampTarget := 0, turn := 0, direction := .forward, stop := true }
  ∧ (∀ l, t.monitor.legs.get l = { contact := .unknown, onCount := 0, offCount := 0
                                   baseline := (s.monitor.legs.get l).baseline, age := s.monitor.settings.maxAge
                                   capture := none, earlyArm := true, missedArm := true, unloadArm := true, staleArm := true
                                   slipCount := 0, torqueCount := 0, slipArm := true, torqueArm := true })
  ∧ t.monitor.settings = s.monitor.settings
  ∧ t.balance = { s.balance with
      heldPitch := 0, heldRoll := 0, heldPitchRate := 0, heldRollRate := 0, unusable := 0, blind := false
      refSource := .planner, refPitch := 0, refRoll := 0, band := t.balance.band, relevel := none, tiltArm := true
      fallArm := true }
  ∧ (0 < s.balance.t1 → t.balance.band = 0)
  ∧ t.arbiter = { s.arbiter with pending := 0, stack := [], level := 0 }
  ∧ (∀ l, t.unit.reachHold.get l = 0) ∧ t.unit.weight = 0 ∧ t.unit.finished = .clear
  ∧ (∀ l, t.shaper.get l = { prev := .all 0, prevValid := false, measured := (s.shaper.get l).measured
                             record := .hold s.ring.tag })
  ∧ t.ring = { s.ring with staleCount := ⟨.all 0, 0⟩, lastFresh := .all false, lossCount := 0, restoration := 0 }
  ∧ t.banks = s.banks ∧ t.gaits = s.gaits ∧ t.limits = s.limits
  ∧ t.link.inbox = s.link.inbox ∧ t.link.rx = s.link.rx ∧ t.link.interval = s.link.interval ∧ t.link.statusCount = 0
  ∧ t.link.sending = s.link.sending ∧ t.link.statusBuf = s.link.statusBuf

/-- The link after an applied soft reset (R160): REFLEX-DONE with ABANDONED for each stack entry from the top down, STATE-CHANGE when the
state left was not CONFIG, RESET-DONE; and the status count is 0 (R171). -/
def ResetAlerts (k : Link) (tag : Byte) (left : OpState) (stack : List Entry) : Link :=
  let ended := stack.foldl
    (fun k e => k.post (newAlert .reflexDone (.line e.line) (.outcome .abandoned) tag e.progress)) k
  let changed := if left = .config then ended
    else ended.post (newAlert .stateChange .none (.state .config none) tag (opCode left))
  { changed.post (newAlert .resetDone .none .none tag 0) with statusCount := 0 }

/-- The link after an entry into SAFE (R96, R71, R162; in the order of log 15): REFLEX-DONE for each entry from the top down, the top
one with its own outcome and the rest ABANDONED; STATE-CHANGE; RELEVEL-ABORTED where a capture was in progress. -/
def SafeAlerts (s : State) (k : Link) (top : EndOutcome) (p : Posture) : Link :=
  let done (o : EndOutcome) (k : Link) (e : Entry) : Link :=
    k.post (newAlert .reflexDone (.line e.line) (.outcome o) s.ring.tag e.progress)
  let ended := match s.arbiter.stack with
    | [] => k
    | e :: below => below.foldl (done .abandoned) (done top k e)
  let changed := ended.post (newAlert .stateChange .none (.state .safe (some p)) s.ring.tag (opCode s.sup.op))
  match s.balance.relevel with
  | some r => changed.post (newAlert .relevelAborted .none .none s.ring.tag r.taken)
  | none => changed

/-! ## What a re-examination answers (R90 to R92, R102) -/

/-- What a re-examination in the state `q` answers (R90 to R92, R102): nothing is taken where there is no candidate or it fails the
test, or in CONFIG and SAFE; a candidate that passes is pushed, and no second line then passes; a NOTE that is alone is noted; and
a taken RING-LOSS, pushed, brings SAFE, upon which a pending soft reset is applied (R159), within the command (log 17). -/
def Reexamined (q : State) (answer : Host.Outcome State Fault Refusal) : Prop :=
  (q.sup.op.isLive = false ∨ (∀ c, IsCandidate q.arbiter c → ¬Takeable q.arbiter c) → answer = .next q)
  ∧ ∀ c, q.sup.op.isLive = true → q.arbiter.stack.length ≤ 4 → IsCandidate q.arbiter c → Takeable q.arbiter c →
    let action := (q.arbiter.settings (lineSource c)).action
    (action ≠ .note → action ≠ .none → ∃ t, answer = .next t ∧ LinePushed q t c)
    ∧ (action = .note → (∀ n, q.arbiter.pending.getLsbD n = true → n = c) →
        answer = .next { q with
          arbiter := { q.arbiter with pending := 0 }
          link := (q.link.post (newAlert .reflexTaken (.line c) .none q.ring.tag 0)).post
            (newAlert .reflexDone (.line c) (.outcome .complete) q.ring.tag 0) })
    ∧ (action = .none →
        ∃ p t, LinePushed q p c ∧ answer = .next t
          ∧ (let entered := SafeAlerts p p.link (if c ≤ 5 then .complete else .abandoned) .freeze
             (q.sup.resetPending = false →
               t.sup = { q.sup with op := .safe, posture := some .freeze }
               ∧ t.arbiter = { q.arbiter with pending := 0, stack := [], level := 0 } ∧ t.link = entered)
             ∧ (q.sup.resetPending = true →
               SoftResetLeaves q t ∧ t.link = ResetAlerts entered q.ring.tag .safe [])))

/-! ## Entries that leave, STOPPING and STANDING (R95, R150, R149, R159) -/

/-- The finished top entry `e` has left (R95, R112, R114): from the state `s` to the state `q`, which is re-examined. -/
def EntryPopped (s q : State) (o : EndOutcome) (e : Entry) (below : List Entry) : Prop :=
  q.arbiter = { s.arbiter with stack := below, level := stackLevel below }
  ∧ q.link = s.link.post (newAlert .reflexDone (.line e.line) (.outcome o) s.ring.tag e.progress)
  ∧ (∀ l, q.unit.reachHold.get l
      = if e.action = .plant ∧ e.leg = some l then min (s.unit.reachHold.get l + e.reach) 1023
        else s.unit.reachHold.get l)
  ∧ q.unit.weight = (if e.action = .crouch then 0 else s.unit.weight)
  ∧ q.unit.finished = (match below with
      | [] => .clear
      | b :: _ => startFinish s b.action b.leg)
  ∧ q = { s with
      arbiter := q.arbiter, unit := q.unit, link := q.link
      wires := { s.wires with
        stopRequests := s.wires.stopRequests + (if below.head?.map Entry.action = some .stop then 1 else 0) } }

/-- STOPPING entered from WALKING (R150, R36), from the state `s` to the state `q`: each playing, unparked leg whose bank has an empty swing
window parks where it is. -/
def StoppingEntered (s q : State) : Prop :=
  (∀ l, let sl := s.engine.slots.get l
    q.engine.slots.get l =
      if s.playing l = true ∧ sl.parked = none ∧ (s.header sl.bank).emptyWindow = true then
        { sl with parked := some sl.phase, swing := false }
      else sl)
  ∧ q = { s with
      sup := { s.sup with op := .stopping }
      link := s.link.post (newAlert .stateChange .none (.state .stopping none) s.ring.tag 2)
      engine := { s.engine with slots := q.engine.slots } }

/-- STANDING entered from STOPPING (R149, R40), from the state `q` to the state `p`: r is 0, and a pending gait becomes current at once with
every playing slot parked at its new bank's touchdown phase and the captures of the slots that moved abandoned (R54). -/
def StoodStill (q p : State) : Prop :=
  p.engine.rate = 0 ∧ p.engine.pendingGait = none
  ∧ (q.engine.pendingGait = none → p.engine.slots = q.engine.slots ∧ p.engine.current = q.engine.current
      ∧ p.monitor = q.monitor)
  ∧ (∀ g, q.engine.pendingGait = some g →
      p.engine.current = g ∧ p.monitor.settings = q.monitor.settings
      ∧ ∀ l, p.engine.slots.get l = (match slotMember (q.gait g) q.sup.modes l with
          | some (m, mirror) => { bank := m.bank, offset := m.offset, mirror := mirror
                                  phase := (q.header m.bank).touchdown, swing := false
                                  parked := some (q.header m.bank).touchdown }
          | none => restSlot)
        ∧ p.monitor.legs.get l = (match slotMember (q.gait g) q.sup.modes l with
          | some (m, _) =>
            if (q.engine.slots.get l).bank = m.bank ∧ (q.engine.slots.get l).offset = m.offset then q.monitor.legs.get l
            else { q.monitor.legs.get l with capture := none }
          | none => { q.monitor.legs.get l with capture := none }))
  ∧ p = { q with
      sup := { q.sup with op := .standing }
      engine := { q.engine with rate := 0, pendingGait := none, slots := p.engine.slots, current := p.engine.current }
      monitor := p.monitor
      link := q.link.post (newAlert .stateChange .none (.state .standing none) q.ring.tag 3)
      wires := { q.wires with allParked := false } }

/-- The whole step from STOPPING to STANDING (R149, R114, R159), from the state `q` to the state `t`: STANDING is entered; an unfinished STOP
on top completes, leaves, and the arbiter re-examines, within the command (log 18); and a soft reset that is then still pending is
applied, within it too (log 17). STATE-CHANGE comes before the STOP's REFLEX-DONE (log 15). -/
def StandingEntered (q t : State) : Prop :=
  ∃ p u, StoodStill q p
    ∧ ((∀ e below, p.arbiter.stack = e :: below → e.action ≠ .stop ∨ p.unit.finished ≠ .clear) → u = p)
    ∧ (∀ e below, p.arbiter.stack = e :: below → e.action = .stop → p.unit.finished = .clear →
        ∃ r, EntryPopped p r .complete e below ∧ Reexamined r (.next u))
    ∧ (u.sup.resetPending = false → t = u)
    ∧ (u.sup.resetPending = true →
        SoftResetLeaves u t ∧ t.link = ResetAlerts u.link u.ring.tag u.sup.op u.arbiter.stack)

/-! ## The ring, the rate and the targets -/

/-- What a sweep return does (R138 to R140, R120, R159), from the state `s` to the state `t`, through the map the sweep was issued
with: each leg's slot is judged by its echoed tag, and each receiver is handed its part. -/
def SweepReturned (s t : State) (f : RingFrame) (map : PerNode Nat) : Prop :=
  (∀ l, let slot := ringSlot f (map.legs.get l)
    (slot.getD 0 0 = f.tag →
      t.ring.staleCount.legs.get l = 0 ∧ t.ring.lastFresh.get l = true
      ∧ (t.shaper.get l) = { s.shaper.get l with measured := readAngles slot }
      ∧ t.wires.legSlots.get l = s.wires.legSlots.get l ++ [.fresh (readLegRec slot)]
      ∧ t.wires.driveStatus.get l = s.wires.driveStatus.get l ++ [slot.getD 1 0]
      ∧ t.wires.staleReports.get l = s.wires.staleReports.get l)
    ∧ (slot.getD 0 0 ≠ f.tag →
      t.ring.staleCount.legs.get l = min (s.ring.staleCount.legs.get l + 1) 15 ∧ t.ring.lastFresh.get l = false
      ∧ t.shaper.get l = s.shaper.get l
      ∧ t.wires.legSlots.get l = s.wires.legSlots.get l ++ [.stale]
      ∧ t.wires.driveStatus.get l = s.wires.driveStatus.get l
      ∧ (s.ring.staleCount.legs.get l + 1 = s.ring.staleLimit → s.ring.staleLimit ≤ 15 →
          t.wires.staleReports.get l = s.wires.staleReports.get l ++ [s.ring.staleLimit])
      ∧ (s.ring.staleCount.legs.get l + 1 ≠ s.ring.staleLimit → s.ring.staleLimit ≤ 15 →
          s.ring.staleCount.legs.get l ≤ 15 → t.wires.staleReports.get l = s.wires.staleReports.get l)))
  ∧ ((ringSlot f map.body).getD 0 0 = f.tag →
      t.ring.staleCount.body = 0
      ∧ t.wires.bodySlots = s.wires.bodySlots ++ [{ slot := .fresh (readBodyRec (ringSlot f map.body)), staleLimit := s.ring.staleLimit }])
  ∧ ((ringSlot f map.body).getD 0 0 ≠ f.tag →
      t.ring.staleCount.body = min (s.ring.staleCount.body + 1) 15
      ∧ t.wires.bodySlots = s.wires.bodySlots ++ [{ slot := .stale, staleLimit := s.ring.staleLimit }])
  ∧ t.wires.sweepReturns = s.wires.sweepReturns ++ [f.tag]
  ∧ t.wires.reflexReturns = s.wires.reflexReturns + 1
  ∧ t.wires.statusReturns = s.wires.statusReturns + 1
  ∧ t.sup.quiesce = (if s.sup.resetPending then min (s.sup.quiesce + 1) 4000 else s.sup.quiesce)
  ∧ t = { s with
      ring := { s.ring with
        inFlight := none, staleCount := t.ring.staleCount, lastFresh := t.ring.lastFresh, lossCount := 0
        up := t.ring.up, restoration := t.ring.restoration }
      shaper := t.shaper
      wires := { s.wires with
        legSlots := t.wires.legSlots, driveStatus := t.wires.driveStatus, staleReports := t.wires.staleReports
        bodySlots := t.wires.bodySlots, sweepReturns := t.wires.sweepReturns
        reflexReturns := t.wires.reflexReturns, statusReturns := t.wires.statusReturns }
      sup := { s.sup with quiesce := t.sup.quiesce }
      link := t.link }

/-- The applied rate at an advance (R26): one step toward the target, and in STOPPING not below the rate floor. -/
def SteppedRate (s : State) (r : Nat) : Prop :=
  let target := s.engine.intent.rateTarget
  let stepped := if s.engine.rate ≤ target then min (s.engine.rate + s.engine.walk.rateStep) target
    else max (s.engine.rate - s.engine.walk.rateStep) target
  r = if s.sup.op = .stopping then max stepped s.engine.walk.rateFloor else stepped

/-- The raw target of stage 5 (R124 to R127) of one joint of one leg, in an operating state other than CONFIG, from its previous
target. -/
def RawTarget (s : State) (l : LegId) (lim : JointLimits) (j : JointId) (prev raw : Int) : Prop :=
  let sl := s.engine.slots.get l
  let p := (sl.parked.getD sl.phase).toNat
  let k := ((s.profile sl.bank).knots.get j)
  let v0 := k.getD (p / 2048) 0 + (k.getD ((p / 2048 + 1) % 32) 0 - k.getD (p / 2048) 0) * ((p % 2048 : Nat) : Int) / 2048
  let v := if sl.mirror = true ∧ j = .ab then -v0 else v0
  let side : Int := if l = .lf ∨ l = .lh then s.engine.amp + s.engine.intent.turn else s.engine.amp - s.engine.intent.turn
  let dir : Int := if s.engine.intent.direction = .forward then 1 else -1
  let g := if s.sup.modes.get l ≠ .active then 0
    else if (s.header sl.bank).scale.get j = true then v * max 0 (min 256 side) / 256 * dir else v
  let c : Int := match j with | .ab => 0 | .hf => 400 | .kn => 800
  let w : Int := s.unit.weight
  raw = if s.sup.op = .safe ∧ s.sup.posture = some .freeze then prev
    else if s.sup.modes.get l = .stowed then lim.stow
    else if s.sup.op = .safe then lim.neutral + c + s.balanceOffset l j + s.reflexOffset l j
    else lim.neutral + (g * (256 - w) + c * w) / 256 + s.balanceOffset l j + s.reflexOffset l j

/-! ## The reflex arbiter (R85, R88, R93, R96) -/

/-- Priorities strictly decrease from the top of the stack down. -/
def Priorities (stack : List Entry) : Prop := stack.Pairwise fun above below => below.priority < above.priority

/-- The laws of R88 and R93, and the empty arbiter of CONFIG and SAFE (R90, R96, R97). -/
def ArbiterLaw (s : State) : Prop :=
  s.arbiter.stack.length ≤ 4
  ∧ Priorities s.arbiter.stack
  ∧ s.arbiter.level = stackLevel s.arbiter.stack
  ∧ (∀ e ∈ s.arbiter.stack, s.arbiter.isPending e.line = false)
  ∧ (s.sup.op.isLive = false → s.arbiter.stack = [] ∧ s.arbiter.pending = 0)

/-! ## The planner link (R163, R164, R166, R167, R170, R171) -/

/-- The law of R170: at most 16 alerts, never two of one kind and key. -/
def AlertLaw (s : State) : Prop :=
  s.link.alerts.length ≤ 16 ∧ s.link.alerts.Pairwise fun a b => ¬(a.kind = b.kind ∧ a.key = b.key)

/-- What the reassembly may hold: nothing yet, or the start of a frame of length at most 120 that is not yet whole. -/
def Rx.lawful : Rx → Prop
  | .hunting => True
  | .collecting bytes => bytes = [] ∨ (u8 bytes 0 ≤ 120 ∧ bytes.length < u8 bytes 0 + 4)

/-- The capacities of the link's queues and counts (R163). -/
def LinkLaw (s : State) : Prop :=
  s.link.inbox.length ≤ 4
  ∧ s.link.replies.length + s.link.reserved.toNat ≤ 8
  ∧ (s.link.reserved = true → s.link.busy.isSome = true)
  ∧ s.link.interval ≤ 255
  ∧ (s.link.statusCount = 0 ∨ s.link.statusCount < s.link.interval)
  ∧ s.link.rx.lawful

/-! ## Profile memory and the gait table (R3, R4, R6, R8, R9, R14) -/

/-- A knot part holds 32 knots within −4095 to 4095. -/
def KnotsGood (k : List Int) : Prop := k.length = 32 ∧ ∀ x ∈ k, -4095 ≤ x ∧ x ≤ 4095

/-- What a bank holds has passed the checks of R6. -/
def Bank.good : Bank → Prop
  | .empty => True
  | .filling h k => (∀ x, h = some x → x.consistent = true) ∧ ∀ j ks, k.get j = some ks → KnotsGood ks
  | .ready p => p.header.consistent = true ∧ ∀ j, KnotsGood (p.knots.get j)

/-- The law of R8, the built-in banks of R9 and the built-in entry of R14. -/
def ProfileLaw (s : State) : Prop :=
  (∀ b, s.inUse b = true → (s.bank b).isReady = true)
  ∧ (∀ b, (s.bank b).good)
  ∧ s.bank 0 = .ready standProfile
  ∧ s.bank 1 = .ready crouchProfile
  ∧ s.gait 0 = some builtInGait
  ∧ (s.gait s.engine.current).isSome = true
  ∧ (∀ g, s.engine.pendingGait = some g → (s.gait g).isSome = true)

/-! ## The play slots (R16 to R20, R30, R34) -/

/-- A slot holds what its gait member gives it, or the non-playing values (R18, R19). -/
def SlotFilled (filled : Option (Member × Bool)) (sl : Slot) : Prop :=
  match filled with
  | some (m, mirror) => sl.bank = m.bank ∧ sl.offset = m.offset ∧ sl.mirror = mirror
  | none => sl = restSlot

/-- A parked slot stands at its parked phase in stance; an unparked slot's swing flag is that of its leg phase (R30). -/
def SlotPhased (s : State) (sl : Slot) : Prop :=
  match sl.parked with
  | some p => sl.phase = p ∧ sl.swing = false
  | none => sl.swing = (s.header sl.bank).inSwing sl.phase

/-- The slots are those of the current entry and the leg modes; in STANDING every playing leg is parked; outside CONFIG the
current entry is legal; a pending entry is legal. -/
def SlotLaw (s : State) : Prop :=
  (∀ l, SlotFilled (slotMember (s.gait s.engine.current) s.sup.modes l) (s.engine.slots.get l))
  ∧ (∀ l, SlotPhased s (s.engine.slots.get l))
  ∧ (s.sup.op = .standing → s.everyPlayingParked = true)
  ∧ (s.sup.op ≠ .config → legal (s.gait s.engine.current) s.sup.modes = true)
  ∧ (∀ g, s.engine.pendingGait = some g → legal (s.gait g) s.sup.modes = true)

/-! ## The phase engine (R22, R25 to R27, R41, R43) -/

/-- The laws of R26 and R27 with the bounds they rest on. -/
def RateLaw (s : State) : Prop :=
  WalkSettings.good s.engine.walk = true
  ∧ s.engine.walk.rateFloor ≤ s.engine.intent.rateTarget
  ∧ s.engine.intent.rateTarget ≤ rateCap s.engine.walk s.sup.modes
  ∧ s.engine.rate ≤ rateCap s.engine.walk s.sup.modes
  ∧ (s.sup.op.isMoving = false → s.engine.rate = 0)
  ∧ s.engine.amp ≤ 256
  ∧ s.engine.intent.ampTarget ≤ 256
  ∧ -128 ≤ s.engine.intent.turn
  ∧ s.engine.intent.turn ≤ 127
  ∧ s.engine.intentAge ≤ 65535
  ∧ s.engine.holdOff ≤ 255

/-! ## The contact monitor (R44, R61) -/

/-- A leg's record lies in the ranges of R44. -/
def LegContact.lawful (c : LegContact) : Prop :=
  c.onCount ≤ 8 ∧ c.offCount ≤ 8 ∧ c.baseline ≤ 4095 ∧ c.age ≤ 65535 ∧ c.slipCount ≤ 15 ∧ c.torqueCount ≤ 15
  ∧ ∀ k, c.capture = some k → k.taken ≤ 3 ∧ k.sum ≤ 4095 * k.taken

/-- Every leg's record and the settings lie in their ranges; so do the forces on their way to the monitor (R195). -/
def MonitorLaw (s : State) : Prop :=
  (∀ l, (s.monitor.legs.get l).lawful)
  ∧ ContactSettings.good s.monitor.settings = true
  ∧ (∀ l r, LegSlot.fresh r ∈ s.wires.legSlots.get l → r.force ≤ 4095)

/-! ## The balance unit (R64, R73, R74, R79) -/

/-- A body record's pitch and roll are those of two signed byte pairs (R195). -/
def BodyRec.lawful (r : BodyRec) : Prop := (-32768 ≤ r.pitch ∧ r.pitch ≤ 32767) ∧ (-32768 ≤ r.roll ∧ r.roll ≤ 32767)

/-- The held values, the references, the thresholds, the band in use, the counts and the tilt settings of the balance unit; and the
body records on their way to it. -/
def BalanceLaw (s : State) : Prop :=
  ((-32768 ≤ s.balance.heldPitch ∧ s.balance.heldPitch ≤ 32767) ∧ (-32768 ≤ s.balance.heldRoll ∧ s.balance.heldRoll ≤ 32767))
  ∧ ((-32767 ≤ s.balance.heldPitchRate ∧ s.balance.heldPitchRate ≤ 32767)
    ∧ (-32767 ≤ s.balance.heldRollRate ∧ s.balance.heldRollRate ≤ 32767))
  ∧ (∀ b r, b ∈ s.wires.bodySlots → b.slot = .fresh r → r.lawful)
  ∧ (50 ≤ s.balance.tiltWarning ∧ s.balance.tiltWarning ≤ 1000)
  ∧ (200 ≤ s.balance.fallLimit ∧ s.balance.fallLimit ≤ 1500)
  ∧ s.balance.unusable ≤ 15
  ∧ (-436 ≤ s.balance.refPitch ∧ s.balance.refPitch ≤ 436)
  ∧ (-436 ≤ s.balance.refRoll ∧ s.balance.refRoll ≤ 436)
  ∧ (1 ≤ s.balance.t1 ∧ s.balance.t1 < s.balance.t2 ∧ s.balance.t2 < s.balance.t3 ∧ s.balance.t3 ≤ 436)
  ∧ s.balance.band = bandFor s.balance.refPitch s.balance.t1 s.balance.t2 s.balance.t3
  ∧ (∀ n j, Gains.good ((s.balance.bands.get n).get j) = true)
  ∧ (∀ k, s.balance.relevel = some k → k.taken ≤ 15 ∧ s.sup.op = .standing)
  ∧ s.balance.tiltWarning ≤ s.balance.fallLimit

/-! ## The reflex action unit (R82, R104) -/

/-- The reach-holds, the weight, and what the stack entries carry, in the ranges of R104; only RETRACT and PLANT entries carry a
knee contribution. -/
def ReflexUnitLaw (s : State) : Prop :=
  s.unit.weight ≤ 256
  ∧ (∀ l, s.unit.reachHold.get l ≤ 1023)
  ∧ (∀ e ∈ s.arbiter.stack, e.reach ≤ 1023 ∧ -1023 ≤ e.contribution ∧ e.contribution ≤ 1023 ∧ e.parameter ≤ 1023)
  ∧ (∀ e ∈ s.arbiter.stack, e.action ≠ .retract → e.action ≠ .plant → e.contribution = 0)
  ∧ (∀ src, (s.arbiter.settings src).parameter ≤ 1023)

/-! ## The joint shaper and the limit table (R123, R130, R177) -/

/-- The laws of R123 and R130: HOLD for every leg in CONFIG; every POSITION target within its joint's limits, and equal to the
previous target. -/
def DriveLaw (s : State) : Prop :=
  (s.sup.op = .config → ∀ l, ∃ tag, (s.shaper.get l).record = .hold tag)
  ∧ (∀ l lims j, s.limits.get l = some lims → (lims.get j).good = true)
  ∧ (∀ l t k tag, (s.shaper.get l).record = .position t k tag →
      (s.shaper.get l).prev = t
      ∧ ∃ lims, s.limits.get l = some lims ∧ ∀ j, (lims.get j).min ≤ t.get j ∧ t.get j ≤ (lims.get j).max)

/-! ## The joint ring (R133, R135, R141 to R145) -/

/-- A leg map gives each node its own position, 1 to 5. -/
def MapGood (m : PerNode Nat) : Prop :=
  (m.legs.toList ++ [m.body]).Nodup ∧ ∀ p ∈ m.legs.toList ++ [m.body], 1 ≤ p ∧ p ≤ 5

/-- No sweep return waits to be taken by any block, and no phase update to be composed. -/
def Wires.noReturns (w : Wires) : Prop :=
  (∀ l, w.legSlots.get l = []) ∧ w.bodySlots = [] ∧ w.sweepReturns = [] ∧ w.reflexReturns = 0 ∧ w.statusReturns = 0
  ∧ w.phaseUpdates = []

/-- The counts, limits and maps of the joint ring controller, the stale limits handed with the body slots that wait among them; while the
ring is DOWN no sweep return waits (R32, R121, R143). -/
def RingLaw (s : State) : Prop :=
  (10 ≤ s.ring.period ∧ s.ring.period ≤ 80)
  ∧ (1 ≤ s.ring.lossLimit ∧ s.ring.lossLimit ≤ 15)
  ∧ (1 ≤ s.ring.staleLimit ∧ s.ring.staleLimit ≤ 15)
  ∧ (∀ b ∈ s.wires.bodySlots, 1 ≤ b.staleLimit ∧ b.staleLimit ≤ 15)
  ∧ MapGood s.ring.legMap
  ∧ (∀ fl, s.ring.inFlight = some fl → fl.tag = s.ring.tag ∧ MapGood fl.map)
  ∧ (∀ l, s.ring.staleCount.legs.get l ≤ 15)
  ∧ s.ring.staleCount.body ≤ 15
  ∧ s.ring.lossCount ≤ 15
  ∧ (s.ring.up = true → s.ring.lossCount < s.ring.lossLimit ∧ s.ring.restoration = 0)
  ∧ s.ring.restoration < 8
  ∧ (s.ring.up = false → s.wires.noReturns)

/-! ## The supervisor (R147, R157, R158) -/

/-- The law of R157, and where the posture, a pending reset and a pending gait can stand. -/
def SupervisorLaw (s : State) : Prop :=
  outCount s.sup.modes ≤ 1
  ∧ (s.sup.posture.isSome = true ↔ s.sup.op = .safe)
  ∧ (s.sup.resetPending = true → s.sup.op = .stopping)
  ∧ s.sup.quiesce ≤ 4000
  ∧ (s.engine.pendingGait.isSome = true → s.sup.op.isMoving = true)

/-- Every law together. -/
def Lawful (s : State) : Prop :=
  ArbiterLaw s ∧ AlertLaw s ∧ LinkLaw s ∧ ProfileLaw s ∧ SlotLaw s ∧ RateLaw s ∧ MonitorLaw s ∧ BalanceLaw s
  ∧ ReflexUnitLaw s ∧ DriveLaw s ∧ RingLaw s ∧ SupervisorLaw s

end Sys2Proof.Machine
end

