-- ==== Sys2Proof/Certificates/Slice0/Obligations.lean ====
section
/-!
DEFINITION. The statements for the provers. Each docstring names the rules of spec/ it rests on. A statement about a command's
effect gives the next state by an equation wherever that is short, so that the equation is its frame too: every field not named
in it is unchanged.
-/

open Sys2Proof Sys2Proof.Machine

/-! ## The step -/

/-- A step carries out the command at the front of the queue on the state with the queue's rest; on an empty queue the block idles.
The queue is the model's own (log 2). -/
def Obligations.StepRunsFrontCommand : Prop :=
  (∀ (c : Instr) (rest : List Instr) (s : Machine.State), s.pending = c :: rest → step s = exec c { s with pending := rest })
  ∧ ∀ s : Machine.State, s.pending = [] → step s = .next s

/-- Every command answers a next state, in every state, and leaves the queue as it was. It holds in every state by the model's own
choices: a command whose cause is absent changes nothing (log 3), the queue is the model's (log 2), and POWER_ON keeps it
(log 36). -/
def Obligations.EveryCommandAnswersNext : Prop :=
  ∀ (c : Instr) (s : Machine.State), ∃ t, exec c s = .next t ∧ t.pending = s.pending

/-! ## The laws, kept by every step -/

/-- The law of R93, the law of R88, and the empty arbiter of CONFIG and SAFE. -/
def Obligations.StepKeepsArbiterLaw : Prop := ∀ s t : Machine.State, ArbiterLaw s → step s = .next t → ArbiterLaw t

/-- The law of R170, and the capacities of R163, R164, R166 and R167. -/
def Obligations.StepKeepsLinkLaws : Prop :=
  ∀ s t : Machine.State, AlertLaw s → LinkLaw s → step s = .next t → AlertLaw t ∧ LinkLaw t

/-- The law of R8, with the built-in banks of R9 and the built-in entry of R14. -/
def Obligations.StepKeepsProfileLaw : Prop := ∀ s t : Machine.State, ProfileLaw s → step s = .next t → ProfileLaw t

/-- The play slots follow the current entry and the leg modes (R18, R19), stand as R30 says, are parked in STANDING (R40, R147), and the
current and pending entries are legal where R16 to R20 and R34 say so. That STANDING has every playing leg parked rests on log 28:
an all-parked report that has waited is acted on only while every playing leg is still parked. -/
def Obligations.StepKeepsSlotLaw : Prop :=
  ∀ s t : Machine.State, ProfileLaw s → SupervisorLaw s → SlotLaw s → step s = .next t → SlotLaw t

/-- The laws of R26 and R27. -/
def Obligations.StepKeepsRateLaw : Prop := ∀ s t : Machine.State, RateLaw s → step s = .next t → RateLaw t

/-- The ranges of R44 and R61.

The ranges of R64 (the held values and rates, the count, the references), of R73 and R74, and of R79 (the tilt warning and the fall
limit, not below it), and the band in use of R73.

The ranges of R104.

The law of R123 for CONFIG, and the first law of R130. -/
def Obligations.StepKeepsUnitLaws : Prop :=
  (∀ s t : Machine.State, MonitorLaw s → step s = .next t → MonitorLaw t)
  ∧ (∀ s t : Machine.State, BalanceLaw s → step s = .next t → BalanceLaw t)
  ∧ (∀ s t : Machine.State, ReflexUnitLaw s → step s = .next t → ReflexUnitLaw t)
  ∧ (∀ s t : Machine.State, DriveLaw s → step s = .next t → DriveLaw t)

/-- The ranges of R133 and what R134, R135, R141, R142 and R144 keep true of them, and the range of the stale limit that a waiting body
slot was handed with (R66); while the ring is DOWN no sweep return waits to be
counted and no phase update to be composed (R32, R121, R143), because the passage to DOWN drops what no block has taken yet, which
is the model's choice (log 41).

The law of R157, and where a posture, a pending reset and a pending gait can stand (R147, R158, R35). -/
def Obligations.StepKeepsRingAndSupervisorLaws : Prop :=
  (∀ s t : Machine.State, RingLaw s → step s = .next t → RingLaw t)
  ∧ (∀ s t : Machine.State, SupervisorLaw s → step s = .next t → SupervisorLaw t)

/-- Every law holds right after power-on. -/
def Obligations.ResetIsLawful : Prop := Lawful Machine.State.reset

/-! ## POWER_ON -/

/-- What power-on leaves (R148 with R10, R14, R21, R22, R25, R44, R61, R64, R73, R74, R79, R82, R84, R85, R104, R120, R133, R163,
R177): every table and every register of every block at its power-on value. The queue of commands is the model's own and is kept
(log 36). -/
def Obligations.PowerOnRestoresEveryTable : Prop :=
  ∀ s : Machine.State, ∃ t, exec .powerOn s = .next t
    ∧ t.sup.op = .config ∧ t.sup.posture = none ∧ t.sup.resetDone = true ∧ t.sup.resetPending = false ∧ t.sup.quiesce = 0
    ∧ (∀ l, t.sup.modes.get l = .active)
    ∧ t.bank 0 = .ready standProfile ∧ t.bank 1 = .ready crouchProfile ∧ (∀ b, 2 ≤ b → t.bank b = .empty)
    ∧ t.gait 0 = some builtInGait ∧ (∀ n, 1 ≤ n → t.gait n = none)
    ∧ t.engine = {
        intent := { rateTarget := 64, ampTarget := 0, turn := 0, direction := .forward, stop := true }
        walk := { rateCeiling := 1024, rateFloor := 64, strutCap := 256, rateStep := 16, ampStep := 4, intentTimeout := 100 }
        rate := 0, amp := 0, master := 0, slots := t.engine.slots, current := 0, pendingGait := none
        intentAge := 0, holdOff := 0, linkLossArmed := true }
    ∧ (∀ l, t.engine.slots.get l
        = { bank := 0, offset := 0, mirror := false, phase := 0, swing := false, parked := some 0 })
    ∧ (∀ l, t.monitor.legs.get l = {
        contact := .unknown, onCount := 0, offCount := 0, baseline := 0, age := 20000, capture := none
        earlyArm := true, missedArm := true, unloadArm := true, staleArm := true
        slipCount := 0, torqueCount := 0, slipArm := true, torqueArm := true })
    ∧ t.monitor.settings = {
        onThreshold := 60, offThreshold := 30, onCount := 2, offCount := 3, earlyMargin := 4096, lateMargin := 4096
        unloadMargin := 2048, slipThreshold := 120, slipCount := 4, torqueCount := 3, maxAge := 20000 }
    ∧ t.balance = {
        heldPitch := 0, heldRoll := 0, heldPitchRate := 0, heldRollRate := 0, unusable := 0, blind := false
        refSource := .planner, refPitch := 0, refRoll := 0, band := 0, relevel := none, tiltArm := true, fallArm := true
        t1 := 87, t2 := 175, t3 := 262, bands := t.balance.bands, tiltWarning := 175, fallLimit := 524 }
    ∧ (∀ n j, (t.balance.bands.get n).get j = { kpPitch := 0, kdPitch := 0, kpRoll := 0, kdRoll := 0, authority := 0 })
    ∧ t.arbiter = {
        pending := 0, stack := [], level := 0, nesting := true, fallCrouch := 200
        sources := {
          tilt := ⟨true, 5, .hold, 50, 0⟩, linkLoss := ⟨true, 4, .stop, 1, 0⟩, earlyContact := ⟨true, 6, .retract, 40, 150⟩
          missedStep := ⟨true, 6, .plant, 60, 10⟩, unload := ⟨true, 5, .plant, 60, 10⟩, slip := ⟨true, 4, .hold, 30, 0⟩
          overtorque := ⟨true, 7, .hold, 100, 0⟩, baselineStale := ⟨true, 1, .note, 1, 0⟩ } }
    ∧ (∀ l, t.unit.reachHold.get l = 0) ∧ t.unit.weight = 0 ∧ t.unit.finished = .clear
    ∧ (∀ l, t.limits.get l = none)
    ∧ (∀ l, t.shaper.get l
        = { prev := ⟨0, 0, 0⟩, prevValid := false, measured := ⟨0, 0, 0⟩, record := .hold 0 })
    ∧ t.ring.period = 20 ∧ t.ring.lossLimit = 5 ∧ t.ring.staleLimit = 3 ∧ t.ring.legMap = ⟨⟨1, 2, 3, 4⟩, 5⟩
    ∧ t.ring.up = true ∧ t.ring.tag = 0 ∧ t.ring.inFlight = none ∧ t.ring.staleCount = ⟨⟨0, 0, 0, 0⟩, 0⟩
    ∧ (∀ l, t.ring.lastFresh.get l = false) ∧ t.ring.lossCount = 0 ∧ t.ring.restoration = 0
    ∧ t.link.rx = .hunting ∧ t.link.inbox = [] ∧ t.link.replies = [] ∧ t.link.reserved = false ∧ t.link.alerts = []
    ∧ t.link.alertsDropped = false ∧ t.link.statusBuf = none ∧ t.link.interval = 10 ∧ t.link.statusCount = 0
    ∧ t.link.sending = none ∧ t.link.busy = none
    ∧ t.pending = s.pending

/-! ## The joint ring -/

/-- SWEEP_ISSUE with no sweep in flight (R134, R136): the tag steps, and the sweep sent carries at each leg's ring position that
leg's record of the drive buffer, and zeros for the body node, in the bytes of R194. The remembered timer period and last sweep are
the model's own fields (log 26). -/
def Obligations.SweepIssueSendsDriveBuffer : Prop :=
  (∀ s : Machine.State, s.ring.inFlight = none →
    ∃ f : RingFrame,
      exec .sweepIssue s = .next { s with ring := { s.ring with
        tag := s.ring.tag + 1, inFlight := some { tag := s.ring.tag + 1, map := s.ring.legMap }
        timerPeriod := s.ring.period, lastSweep := some f } }
      ∧ f.tag = s.ring.tag + 1 ∧ f.slots.length = 80 ∧ ringCrcGood f = true
      ∧ (MapGood s.ring.legMap →
          ringSlot f s.ring.legMap.body = List.replicate 16 0
          ∧ ∀ l, ringSlot f (s.ring.legMap.legs.get l) = driveSlot (s.shaper.get l).record))
  ∧ (∀ tag, driveSlot (.hold tag) = [0, 0, 0, 0, 0, 0, 0, 0, tag, 0, 0, 0, 0, 0, 0, 0])
  ∧ ∀ (x : PerJoint Int) (k : Nat) (tag : Byte), driveSlot (.position x k tag)
      = [1] ++ be16s x.ab ++ be16s x.hf ++ be16s x.kn ++ [BitVec.ofNat 8 k, tag, 0, 0, 0, 0, 0, 0, 0]

/-- A lost sweep that does not take the ring DOWN (R134, R137, R141) changes the ring's counts alone. A return that is not that of the
sweep in flight changes nothing. No relevel capture is in progress (RelevelAborted has that case). An expiry is SWEEP_ISSUE, or
RING_LOSS without a frame (log 26); a return of a wrong length has no good CRC (log 25).

RING_LOSS, SWEEP_ISSUE and RING_RETURN at the loss limit (R142): the loss takes the ring DOWN and raises line 5 with the count, by the
timer or a bad CRC; RING_LOSS is the whole step that brings it (log 4). Sweep returns not yet taken are dropped (log 41).

While DOWN (R32, R121, R143) nothing counts a sweep return and nothing composes. -/
def Obligations.LostSweepCountsOrTakesRingDown : Prop :=
  (∀ (s : Machine.State) (f : RingFrame),
      ((∀ fl, s.ring.inFlight = some fl → f.tag ≠ fl.tag) → exec (.ringReturn f) s = .next s)
      ∧ ∀ fl, s.ring.inFlight = some fl → s.balance.relevel = none →
        (s.ring.up = true → s.ring.lossCount + 1 < s.ring.lossLimit → s.ring.lossLimit ≤ 15 →
          (f.tag = fl.tag → ringCrcGood f = false →
            exec (.ringReturn f) s = .next { s with ring := { s.ring with inFlight := none, lossCount := s.ring.lossCount + 1 } })
          ∧ ∃ g, exec .sweepIssue s = .next { s with ring := { s.ring with
              lossCount := s.ring.lossCount + 1, tag := s.ring.tag + 1
              inFlight := some { tag := s.ring.tag + 1, map := s.ring.legMap }
              timerPeriod := s.ring.period, lastSweep := some g } })
        ∧ (s.ring.up = false →
          (f.tag = fl.tag → ringCrcGood f = false →
            exec (.ringReturn f) s = .next { s with ring := { s.ring with inFlight := none, restoration := 0 } })
          ∧ ∃ g, exec .sweepIssue s = .next { s with ring := { s.ring with
              restoration := 0, tag := s.ring.tag + 1
              inFlight := some { tag := s.ring.tag + 1, map := s.ring.legMap }
              timerPeriod := s.ring.period, lastSweep := some g } }))
  ∧ (∀ (s : Machine.State) (fl : Flight), s.ring.inFlight = some fl → s.ring.up = true → s.balance.relevel = none →
      s.ring.lossLimit ≤ min (s.ring.lossCount + 1) 15 →
      let wires : Wires := { s.wires with
        legSlots := ⟨[], [], [], []⟩, bodySlots := [], sweepReturns := [], reflexReturns := 0, statusReturns := 0
        phaseUpdates := []
        raises := s.wires.raises ++ [{ line := 5, value := min (s.ring.lossCount + 1) 15, tag := s.ring.tag }] }
      (∃ g, exec (.ringLoss none) s = .next { s with
          ring := { s.ring with
            up := false, restoration := 0, lossCount := min (s.ring.lossCount + 1) 15, tag := s.ring.tag + 1
            inFlight := some { tag := s.ring.tag + 1, map := s.ring.legMap }, timerPeriod := s.ring.period
            lastSweep := some g }
          wires := wires }
        ∧ exec .sweepIssue s = exec (.ringLoss none) s)
      ∧ ∀ f : RingFrame, f.tag = fl.tag → ringCrcGood f = false →
        exec (.ringLoss (some f)) s = .next { s with
          ring := { s.ring with
            up := false, restoration := 0, lossCount := min (s.ring.lossCount + 1) 15, inFlight := none }
          wires := wires }
        ∧ exec (.ringReturn f) s = exec (.ringLoss (some f)) s)
  ∧ (∀ (s : Machine.State) (c : Instr), RingLaw s → s.ring.up = false →
      (c = .advance ∨ c = .linkLoss ∨ c = .composition ∨ (∃ l, c = .legRecord l) ∨ c = .bodyRecord ∨ c = .reflexStep
        ∨ c = .statusImage) →
      exec c s = .next s)

/-- RING_RETURN as a sweep return (R137 to R140): good CRC, the tag of the sweep in flight, ring UP. The body slot is handed on with the
stale limit as it stands (R66).

RING_RESTORED (R144): while DOWN a good return counts; the eighth sets the ring UP, posts RING-RESTORED and is itself taken as
a sweep return. That RING_RESTORED is the whole step of the RING_RETURN that brings it is the model's choice (log 4). -/
def Obligations.GoodReturnIsHandedInward : Prop :=
  (∀ (s : Machine.State) (f : RingFrame) (fl : Flight),
      s.ring.inFlight = some fl → f.tag = fl.tag → ringCrcGood f = true → s.ring.up = true →
      ∃ t, exec (.ringReturn f) s = .next t ∧ SweepReturned s t f fl.map
        ∧ t.ring.up = true ∧ t.ring.restoration = s.ring.restoration ∧ t.link = s.link)
  ∧ (∀ (s : Machine.State) (f : RingFrame) (fl : Flight),
      s.ring.inFlight = some fl → f.tag = fl.tag → ringCrcGood f = true → s.ring.up = false →
      (s.ring.restoration < 7 →
        exec (.ringReturn f) s = .next { s with ring := { s.ring with
          inFlight := none, restoration := s.ring.restoration + 1 } })
      ∧ (s.ring.restoration = 7 →
        exec (.ringRestored f) s = exec (.ringReturn f) s
        ∧ ∃ t, exec (.ringRestored f) s = .next t ∧ SweepReturned s t f fl.map
          ∧ t.ring.up = true ∧ t.ring.restoration = 0
          ∧ t.link = s.link.post (newAlert .ringRestored .none .none s.ring.tag 0)))

/-! ## Drive failures -/

/-- STALE_LIMIT and DRIVE_STATUS (R155, R154, R20): an ACTIVE leg's drive failure marks it FAULTED, makes its slot non-playing and its
reach-hold 0, and leaves the other legs' modes and slots as they were, whichever of the raise and the test of R156 is first. With
the raise still on its way (and no second FAULTED leg), DRIVE-FAULT goes to the arbiter on the leg's own line, and the operating
state stays, a pending reset or none. The value a drive status raises is free (log 6); the flag that says which of the raise and the test comes first is
the model's operand (log 16). -/
def Obligations.DriveFailureFaultsActiveLeg : Prop :=
  ∀ (s : Machine.State) (l : LegId) (first : Bool) (c : Instr) (value : Int),
    s.sup.modes.get l = .active → (s.sup.resetPending = false ∨ (faultedCount s.sup.modes = 0 ∧ first = false)) → SlotLaw s →
    ((∃ b rest, s.wires.driveStatus.get l = b :: rest ∧ b ≠ 0 ∧ c = .driveStatus l first ∧ value = Config.driveStatusValue b)
      ∨ (∃ n rest, s.wires.staleReports.get l = n :: rest ∧ c = .staleLimit l first ∧ value = (n : Int))) →
    ∃ t, exec c s = .next t
      ∧ t.sup.modes = s.sup.modes.set l .faulted
      ∧ t.engine.slots = s.engine.slots.set l restSlot
      ∧ t.engine.current = s.engine.current ∧ t.engine.master = s.engine.master
      ∧ t.banks = s.banks ∧ t.gaits = s.gaits ∧ t.limits = s.limits ∧ t.ring = s.ring ∧ t.shaper = s.shaper
      ∧ (faultedCount s.sup.modes = 0 → first = false →
          t.sup.op = s.sup.op ∧ t.unit.reachHold = s.unit.reachHold.set l 0
          ∧ t.wires.raises = s.wires.raises ++ [{ line := l.num, value := value, tag := s.ring.tag }]
          ∧ t.arbiter = s.arbiter ∧ t.link = s.link ∧ t.balance = s.balance)

/-- A second FAULTED leg in STANDING, WALKING or STOPPING brings SAFE with FREEZE posture at once, in both orders of its raise and
the test (R100, R156), and a pending soft reset is applied upon it (R159). That SAFE is entered within the command is the model's
reading of 'at once' (log 16), and so is the reset (log 17), which leaves what waits between the blocks as it is (log 21).

A drive status of OK does nothing. A failure (FAULT, or a stale-limit report) of a STOWED leg posts LEG-FAULT and changes nothing
else; of a STRUT leg it posts LEG-FAULT, leaves the mode, and in STANDING, WALKING and STOPPING enters SAFE with FREEZE posture, the
alerts in the order of log 15; of a FAULTED leg it does nothing (R155). -/
def Obligations.LaterDriveFailures : Prop :=
  (∀ (s : Machine.State) (l m : LegId) (first : Bool) (c : Instr),
      s.sup.modes.get l = .active → m ≠ l → s.sup.modes.get m = .faulted → s.sup.op.isLive = true →
      ((∃ b rest, s.wires.driveStatus.get l = b :: rest ∧ b ≠ 0 ∧ c = .driveStatus l first)
        ∨ (∃ n rest, s.wires.staleReports.get l = n :: rest ∧ c = .staleLimit l first)) →
      ∃ t, exec c s = .next t
        ∧ (s.sup.resetPending = false →
            t.sup.op = .safe ∧ t.sup.posture = some .freeze
            ∧ t.sup.modes.get l = .faulted ∧ t.sup.modes.get m = .faulted
            ∧ t.arbiter.stack = [] ∧ t.arbiter.pending = 0 ∧ t.arbiter.level = 0 ∧ t.engine.rate = 0)
        ∧ (s.sup.resetPending = true → SoftResetLeaves s t))
  ∧ (∀ (s : Machine.State) (l : LegId) (first : Bool) (rest : List Byte), s.wires.driveStatus.get l = 0 :: rest →
      exec (.driveStatus l first) s = .next { s with wires := { s.wires with
        driveStatus := s.wires.driveStatus.set l rest } })
  ∧ (∀ (s s0 : Machine.State) (l : LegId) (first : Bool) (c : Instr),
      ((∃ b rest, s.wires.driveStatus.get l = b :: rest ∧ b ≠ 0 ∧ c = .driveStatus l first
          ∧ s0 = { s with wires := { s.wires with driveStatus := s.wires.driveStatus.set l rest } })
        ∨ (∃ n rest, s.wires.staleReports.get l = n :: rest ∧ c = .staleLimit l first
          ∧ s0 = { s with wires := { s.wires with staleReports := s.wires.staleReports.set l rest } })) →
      let fault (m : Mode) : Link := s.link.post (newAlert .legFault (.leg l) (.mode m) s.ring.tag 0)
      (s.sup.modes.get l = .faulted → exec c s = .next s0)
      ∧ (s.sup.modes.get l = .stowed → exec c s = .next { s0 with link := fault .stowed })
      ∧ (s.sup.modes.get l = .strut → s.sup.op.isLive = false → exec c s = .next { s0 with link := fault .strut })
      ∧ (s.sup.modes.get l = .strut → s.sup.op.isLive = true →
          let entered := SafeAlerts s (fault .strut) .abandoned .freeze
          ∃ t, exec c s = .next t ∧ t.wires = s0.wires
            ∧ (s.sup.resetPending = false →
                t.sup = { s.sup with op := .safe, posture := some .freeze } ∧ t.link = entered
                ∧ t.arbiter = { s.arbiter with stack := [], pending := 0, level := 0 }
                ∧ t.engine = { s.engine with rate := 0, holdOff := 0, pendingGait := none }
                ∧ t.shaper = s.shaper ∧ t.ring = s.ring)
            ∧ (s.sup.resetPending = true → SoftResetLeaves s t ∧ t.link = ResetAlerts entered s.ring.tag .safe [])))

/-! ## The contact monitor -/

/-- LEG_RECORD with a stale slot (R45, R48): the contact becomes UNKNOWN, the counters 0, the capture absent, the slip and torque arms
armed (log 32), and the age counts the sweep return.

LEG_RECORD and CONTACT_CHANGE with a fresh record (R46, R47): the counters and the contact after it, in every operating state and
leg mode. `k` is the factor of the thresholds: 2 for a leg whose age, after stage 1 of R45, exceeds the maximum. That CONTACT_CHANGE
is the whole step of the leg slot that brings it is the model's choice (log 4). -/
def Obligations.LegSlotClassifiesContact : Prop :=
  (∀ (s : Machine.State) (l : LegId) (rest : List LegSlot), s.wires.legSlots.get l = .stale :: rest →
      ∃ t, exec (.legRecord l) s = .next t
        ∧ (let c := t.monitor.legs.get l
           c.contact = .unknown ∧ c.onCount = 0 ∧ c.offCount = 0 ∧ c.capture = none ∧ c.slipCount = 0 ∧ c.torqueCount = 0
           ∧ c.slipArm = true ∧ c.torqueArm = true
           ∧ c.age = min ((s.monitor.legs.get l).age + 1) 65535 ∧ c.baseline = (s.monitor.legs.get l).baseline)
        ∧ (∀ m, m ≠ l → t.monitor.legs.get m = s.monitor.legs.get m)
        ∧ t = { s with
            monitor := { s.monitor with legs := t.monitor.legs }
            wires := { s.wires with legSlots := s.wires.legSlots.set l rest, raises := t.wires.raises } })
  ∧ (∀ (s : Machine.State) (l : LegId) (r : LegRec) (rest : List LegSlot), s.wires.legSlots.get l = .fresh r :: rest →
      let c := s.monitor.legs.get l
      let st := s.monitor.settings
      let k : Int := if st.maxAge < min (c.age + 1) 65535 then 2 else 1
      let load : Int := (r.force : Int) - c.baseline
      let on := if k * st.onThreshold ≤ load then min (c.onCount + 1) 8 else 0
      let off := if k * st.onThreshold ≤ load then 0 else if load < k * st.offThreshold then min (c.offCount + 1) 8 else 0
      let toLoaded : Bool := c.contact ≠ .loaded ∧ st.onCount ≤ on
      let toUnloaded : Bool := c.contact ≠ .unloaded ∧ st.offCount ≤ off ∧ ¬(c.contact = .unknown ∧ st.onCount ≤ on)
      ∃ t, exec (.legRecord l) s = .next t
        ∧ (toLoaded = true → (t.monitor.legs.get l).contact = .loaded)
        ∧ (toUnloaded = true → (t.monitor.legs.get l).contact = .unloaded)
        ∧ (toLoaded = true ∨ toUnloaded = true →
            (t.monitor.legs.get l).onCount = 0 ∧ (t.monitor.legs.get l).offCount = 0
            ∧ exec (.contactChange l) s = .next t)
        ∧ (toLoaded = false → toUnloaded = false →
            (t.monitor.legs.get l).contact = c.contact ∧ (t.monitor.legs.get l).onCount = on
            ∧ (t.monitor.legs.get l).offCount = off)
        ∧ (∀ m, m ≠ l → t.monitor.legs.get m = s.monitor.legs.get m)
        ∧ t = { s with
            monitor := { s.monitor with legs := t.monitor.legs }
            unit := { s.unit with finished := t.unit.finished }
            wires := { s.wires with legSlots := s.wires.legSlots.set l rest, raises := t.wires.raises } })

/-- CONTACT_CHANGE (R47, R58, R110): the record that completes the on count makes the leg LOADED, re-arms the unload arm, and finishes with
COMPLETE the PLANT that is top for the leg and has not finished. `k` is 2 for a leg that is degraded after stage 1 of R45.

EARLY-CONTACT, UNLOAD and MISSED-STEP (R55 to R58): a swinging leg that becomes LOADED further than the early margin before touchdown
raises its line with that distance; a leg that loses its load where R58 has it raises its line with the load; a leg still UNLOADED
further than the late margin after touchdown raises its line with that distance; each disarms its arm.

A leg slot raises nothing but what R51 and R55 to R60 give it, in the order of the stages of R45: BASELINE-STALE for any slot, and for
a fresh record EARLY-CONTACT, MISSED-STEP, UNLOAD, SLIP and OVERTORQUE, each only where its arm is armed, the state is STANDING,
WALKING or STOPPING and the leg's mode has the detection.

That CONTACT_CHANGE is the whole step of the leg slot is the model's choice (log 4), and that the finished mark carries the outcome to
POP is its own means (log 19); that each leg's slot is taken by itself is log 46. -/
def Obligations.ContactChangesAreDetected : Prop :=
  (∀ (s : Machine.State) (l : LegId) (r : LegRec) (rest : List LegSlot),
      s.wires.legSlots.get l = .fresh r :: rest →
      let c := s.monitor.legs.get l
      let st := s.monitor.settings
      let k : Int := if st.maxAge < min (c.age + 1) 65535 then 2 else 1
      let sl := s.engine.slots.get l
      let ahead := fwd sl.phase (s.header sl.bank).touchdown
      c.contact ≠ .loaded → k * st.onThreshold ≤ (r.force : Int) - c.baseline → st.onCount ≤ min (c.onCount + 1) 8 →
      ∃ t, exec (.contactChange l) s = .next t ∧ exec (.legRecord l) s = .next t
        ∧ (t.monitor.legs.get l).contact = .loaded ∧ (t.monitor.legs.get l).capture = none
        ∧ (t.monitor.legs.get l).unloadArm = true ∧ t.arbiter = s.arbiter
        ∧ (∀ e below, s.arbiter.stack = e :: below → e.action = .plant → e.leg = some l → s.unit.finished = .clear →
            t.unit.finished = .reported .complete)
        ∧ (s.sup.op.isLive = true → s.sup.modes.get l = .active → sl.swing = true → st.earlyMargin < ahead → c.earlyArm = true →
            (t.monitor.legs.get l).earlyArm = false
            ∧ ({ line := 8 + l.num, value := ahead, tag := s.ring.tag } : Raise) ∈ t.wires.raises))
  ∧ (∀ (s : Machine.State) (l : LegId) (r : LegRec) (rest : List LegSlot),
      s.wires.legSlots.get l = .fresh r :: rest →
      let c := s.monitor.legs.get l
      let st := s.monitor.settings
      let k : Int := if st.maxAge < min (c.age + 1) 65535 then 2 else 1
      let sl := s.engine.slots.get l
      let h := s.header sl.bank
      let load : Int := (r.force : Int) - c.baseline
      s.sup.op.isLive = true → load < k * st.onThreshold →
      (c.contact = .loaded → load < k * st.offThreshold → st.offCount ≤ min (c.offCount + 1) 8 → c.unloadArm = true →
        (s.sup.modes.get l = .strut
          ∨ (s.sup.modes.get l = .active ∧ sl.parked.isSome = true)
          ∨ (s.sup.modes.get l = .active ∧ sl.swing = false ∧ st.lateMargin < fwd h.touchdown sl.phase
              ∧ st.unloadMargin < fwd sl.phase h.liftoff)) →
        ∃ t, exec (.contactChange l) s = .next t ∧ exec (.legRecord l) s = .next t
          ∧ (t.monitor.legs.get l).contact = .unloaded ∧ (t.monitor.legs.get l).unloadArm = false
          ∧ ({ line := 16 + l.num, value := load, tag := s.ring.tag } : Raise) ∈ t.wires.raises)
      ∧ (c.contact = .unloaded → 1 ≤ st.onCount → c.missedArm = true → s.sup.modes.get l = .active →
        sl.swing = false → sl.parked = none → st.lateMargin < fwd h.touchdown sl.phase →
        ∃ t, exec (.legRecord l) s = .next t
          ∧ (t.monitor.legs.get l).contact = .unloaded ∧ (t.monitor.legs.get l).missedArm = false
          ∧ ({ line := 12 + l.num, value := fwd h.touchdown sl.phase, tag := s.ring.tag } : Raise) ∈ t.wires.raises))
  ∧ (∀ (s : Machine.State) (l : LegId) (slot : LegSlot) (rest : List LegSlot), s.wires.legSlots.get l = slot :: rest →
      let c := s.monitor.legs.get l
      let st := s.monitor.settings
      let aged := min (c.age + 1) 65535
      let sl := s.engine.slots.get l
      let h := s.header sl.bank
      let raise (p : Prop) [Decidable p] (line : Nat) (value : Int) : List Raise :=
        if p then [{ line := line + l.num, value := value, tag := s.ring.tag }] else []
      let stale := raise (c.age ≤ st.maxAge ∧ st.maxAge < aged ∧ c.staleArm = true) 28 aged
      ∃ t, exec (.legRecord l) s = .next t
        ∧ (slot = .stale → t.wires.raises = s.wires.raises ++ stale)
        ∧ ∀ r, slot = .fresh r →
          let now := (t.monitor.legs.get l).contact
          let active := s.sup.op.isLive = true ∧ s.sup.modes.get l = .active
          let bearing := s.sup.op.isLive = true ∧ (s.sup.modes.get l = .active ∨ s.sup.modes.get l = .strut)
          let ahead := fwd sl.phase h.touchdown
          let past := fwd h.touchdown sl.phase
          let off := (r.hf - (s.shaper.get l).prev.hf).natAbs
          let excess (j : JointId) : Nat := match s.limits.get l with
            | some lims => if (lims.get j).torque < (r.torques.get j).natAbs then (r.torques.get j).natAbs else 0
            | none => 0
          let worst := max (excess .ab) (max (excess .hf) (excess .kn))
          t.wires.raises = s.wires.raises ++ stale
            ++ raise (active ∧ c.contact ≠ .loaded ∧ now = .loaded ∧ sl.swing = true ∧ st.earlyMargin < ahead
                ∧ c.earlyArm = true) 8 ahead
            ++ raise (active ∧ sl.swing = false ∧ sl.parked = none ∧ st.lateMargin < past ∧ now = .unloaded
                ∧ c.missedArm = true) 12 past
            ++ raise (bearing ∧ c.contact = .loaded ∧ now = .unloaded ∧ c.unloadArm = true
                ∧ (s.sup.modes.get l = .strut ∨ sl.parked.isSome = true
                  ∨ (sl.swing = false ∧ st.lateMargin < past ∧ st.unloadMargin < fwd sl.phase h.liftoff)))
                16 ((r.force : Int) - c.baseline)
            ++ raise (active ∧ sl.swing = false ∧ now = .loaded ∧ (s.shaper.get l).prevValid = true
                ∧ st.slipThreshold < off ∧ st.slipCount ≤ min (c.slipCount + 1) 15 ∧ c.slipArm = true) 20 off
            ++ raise (bearing ∧ 0 < worst ∧ st.torqueCount ≤ min (c.torqueCount + 1) 15 ∧ c.torqueArm = true) 24 worst)

/-- SLIP (R59): a fresh record on which a loaded stance foot's hip is off its target by more than the threshold, bringing the counter
to the slip count with the arm armed, raises the leg's line with that difference and disarms the arm.

OVERTORQUE (R60): a fresh record with a joint above its torque limit, bringing the counter to the torque count with the arm armed,
raises the line of an ACTIVE or STRUT leg with the largest magnitude among the joints above their limits.

A fresh record that does not count toward SLIP or OVERTORQUE sets the counter to 0 and re-arms the arm (R55, R59, R60; log 32). That
SLIP and OVERTORQUE are the whole step of the leg slot that brings them is the model's choice (log 4). -/
def Obligations.SlipAndOvertorqueAreRaised : Prop :=
  (∀ (s : Machine.State) (l : LegId) (r : LegRec) (rest : List LegSlot),
      s.wires.legSlots.get l = .fresh r :: rest →
      let c := s.monitor.legs.get l
      let st := s.monitor.settings
      let k : Int := if st.maxAge < min (c.age + 1) 65535 then 2 else 1
      s.sup.op.isLive = true → s.sup.modes.get l = .active → (s.engine.slots.get l).swing = false → c.contact = .loaded →
      k * st.offThreshold ≤ (r.force : Int) - c.baseline →
      1 ≤ st.offCount → (s.shaper.get l).prevValid = true →
      st.slipThreshold < (r.hf - (s.shaper.get l).prev.hf).natAbs → st.slipCount ≤ min (c.slipCount + 1) 15 → c.slipArm = true →
      ∃ t, exec (.slip l) s = .next t ∧ exec (.legRecord l) s = .next t
        ∧ (t.monitor.legs.get l).slipCount = min (c.slipCount + 1) 15 ∧ (t.monitor.legs.get l).slipArm = false
        ∧ ({ line := 20 + l.num, value := (r.hf - (s.shaper.get l).prev.hf).natAbs, tag := s.ring.tag } : Raise) ∈ t.wires.raises
        ∧ t.engine = s.engine ∧ t.sup = s.sup ∧ t.arbiter = s.arbiter ∧ t.shaper = s.shaper)
  ∧ (∀ (s : Machine.State) (l : LegId) (r : LegRec) (rest : List LegSlot) (lims : PerJoint JointLimits) (j : JointId),
      s.wires.legSlots.get l = .fresh r :: rest →
      s.sup.op.isLive = true → (s.sup.modes.get l = .active ∨ s.sup.modes.get l = .strut) →
      s.limits.get l = some lims → (lims.get j).torque < (r.torques.get j).natAbs →
      (∀ i, (lims.get i).torque < (r.torques.get i).natAbs → (r.torques.get i).natAbs ≤ (r.torques.get j).natAbs) →
      s.monitor.settings.torqueCount ≤ min ((s.monitor.legs.get l).torqueCount + 1) 15 →
      (s.monitor.legs.get l).torqueArm = true →
      ∃ t, exec (.overtorque l) s = .next t ∧ exec (.legRecord l) s = .next t
        ∧ (t.monitor.legs.get l).torqueCount = min ((s.monitor.legs.get l).torqueCount + 1) 15
        ∧ (t.monitor.legs.get l).torqueArm = false
        ∧ ({ line := 24 + l.num, value := (r.torques.get j).natAbs, tag := s.ring.tag } : Raise) ∈ t.wires.raises
        ∧ t.engine = s.engine ∧ t.sup = s.sup ∧ t.arbiter = s.arbiter ∧ t.shaper = s.shaper)
  ∧ (∀ (s : Machine.State) (l : LegId) (r : LegRec) (rest : List LegSlot), s.wires.legSlots.get l = .fresh r :: rest →
      ∃ t, exec (.legRecord l) s = .next t
        ∧ (let c := t.monitor.legs.get l
           let slips : Prop := s.sup.op.isLive = true ∧ s.sup.modes.get l = .active ∧ (s.engine.slots.get l).swing = false
             ∧ c.contact = .loaded ∧ (s.shaper.get l).prevValid = true
             ∧ s.monitor.settings.slipThreshold < (r.hf - (s.shaper.get l).prev.hf).natAbs
           let strains : Prop := s.sup.op.isLive = true ∧ (s.sup.modes.get l = .active ∨ s.sup.modes.get l = .strut)
             ∧ ∃ lims j, s.limits.get l = some lims ∧ (lims.get j).torque < (r.torques.get j).natAbs
           (slips → c.slipCount = min ((s.monitor.legs.get l).slipCount + 1) 15)
           ∧ (¬slips → c.slipCount = 0 ∧ c.slipArm = true)
           ∧ (strains → c.torqueCount = min ((s.monitor.legs.get l).torqueCount + 1) 15)
           ∧ (¬strains → c.torqueCount = 0 ∧ c.torqueArm = true)))

/-- BASELINE_STALE (R50, R51): the slot whose ageing takes the age past the maximum raises the leg's line with the age and disarms the
stale arm; a completed capture (here excluded) would re-arm it.

BASELINE_CAPTURE (R53): the fourth sample of an UNLOADED swinging leg sets the baseline to the mean of the four forces rounded
down and the age to 0, ends the capture and re-arms the stale arm. An earlier sample joins the sum and changes nothing of the
baseline; a record of the leg in stance is no sample.

That BASELINE_STALE and BASELINE_CAPTURE are the whole step of the leg slot that brings them is the model's choice (log 4). -/
def Obligations.BaselineAgesAndIsCaptured : Prop :=
  (∀ (s : Machine.State) (l : LegId) (slot : LegSlot) (rest : List LegSlot),
      s.wires.legSlots.get l = slot :: rest → (s.monitor.legs.get l).age = s.monitor.settings.maxAge →
      s.monitor.settings.maxAge ≤ 65000 → (s.monitor.legs.get l).staleArm = true → (s.monitor.legs.get l).capture = none →
      ∃ t, exec (.baselineStale l) s = .next t ∧ exec (.legRecord l) s = .next t
        ∧ (t.monitor.legs.get l).age = s.monitor.settings.maxAge + 1 ∧ (t.monitor.legs.get l).staleArm = false
        ∧ ({ line := 28 + l.num, value := (s.monitor.settings.maxAge : Int) + 1, tag := s.ring.tag } : Raise) ∈ t.wires.raises
        ∧ t.engine = s.engine ∧ t.sup = s.sup ∧ t.arbiter = s.arbiter ∧ t.shaper = s.shaper)
  ∧ (∀ (s : Machine.State) (l : LegId) (r : LegRec) (rest : List LegSlot) (x : Capture),
      s.wires.legSlots.get l = .fresh r :: rest →
      let c := s.monitor.legs.get l
      let st := s.monitor.settings
      let k : Int := if st.maxAge < min (c.age + 1) 65535 then 2 else 1
      c.capture = some x → c.contact = .unloaded → (r.force : Int) - c.baseline < k * st.onThreshold → 1 ≤ st.onCount →
      ∃ t, exec (.legRecord l) s = .next t
        ∧ (t.monitor.legs.get l).contact = .unloaded
        ∧ ((s.engine.slots.get l).swing = true → x.taken = 3 →
            exec (.baselineCapture l) s = .next t
            ∧ (t.monitor.legs.get l).baseline = (x.sum + r.force) / 4 ∧ (t.monitor.legs.get l).age = 0
            ∧ (t.monitor.legs.get l).capture = none ∧ (t.monitor.legs.get l).staleArm = true)
        ∧ ((s.engine.slots.get l).swing = true → x.taken ≠ 3 →
            (t.monitor.legs.get l).capture = some { taken := x.taken + 1, sum := x.sum + r.force }
            ∧ (t.monitor.legs.get l).baseline = c.baseline ∧ (t.monitor.legs.get l).age = min (c.age + 1) 65535)
        ∧ ((s.engine.slots.get l).swing = false →
            (t.monitor.legs.get l).capture = some x ∧ (t.monitor.legs.get l).baseline = c.baseline)
        ∧ (∀ m, m ≠ l → t.monitor.legs.get m = s.monitor.legs.get m)
        ∧ t.engine = s.engine ∧ t.sup = s.sup ∧ t.arbiter = s.arbiter ∧ t.shaper = s.shaper)

/-- ADVANCE_REPORT (R31, R52, R54, R56, R57, R112): a liftoff re-arms the early arm and clears the reach-hold, a touchdown re-arms the
missed arm and abandons the capture, a crossing of the refresh point by an UNLOADED swinging leg starts a capture. That the leg
must still play the reported bank and offset in a live state when the report is taken is the model's choice (log 20). -/
def Obligations.AdvanceReportActs : Prop :=
  ∀ (s : Machine.State) (reports : PerLeg (Option LegReport)) (rest : List (PerLeg (Option LegReport))),
    s.wires.reports = reports :: rest →
    ∃ t, exec .advanceReport s = .next t
      ∧ (∀ l, reports.get l = none →
          t.monitor.legs.get l = s.monitor.legs.get l ∧ t.unit.reachHold.get l = s.unit.reachHold.get l)
      ∧ (∀ l r, reports.get l = some r →
          (r.liftoff = true → (t.monitor.legs.get l).earlyArm = true ∧ t.unit.reachHold.get l = 0)
          ∧ (r.liftoff = false →
              (t.monitor.legs.get l).earlyArm = (s.monitor.legs.get l).earlyArm
              ∧ t.unit.reachHold.get l = s.unit.reachHold.get l)
          ∧ (t.monitor.legs.get l).missedArm = ((s.monitor.legs.get l).missedArm || r.touchdown)
          ∧ (r.swingAfter = false → (r.touchdown = true ∨ r.parked = true ∨ r.kept = false) →
              (t.monitor.legs.get l).capture = none)
          ∧ (r.crossing = true → r.swingAfter = true → (s.monitor.legs.get l).contact = .unloaded →
              1 ≤ fwd r.oldPhase (s.header r.bank).refresh → fwd r.oldPhase (s.header r.bank).refresh ≤ r.rate →
              s.playing l = true → (s.engine.slots.get l).bank = r.bank → (s.engine.slots.get l).offset = r.offset →
              s.sup.op.isLive = true → (t.monitor.legs.get l).capture = some { taken := 0, sum := 0 })
          ∧ (t.monitor.legs.get l).contact = (s.monitor.legs.get l).contact
          ∧ (t.monitor.legs.get l).baseline = (s.monitor.legs.get l).baseline
          ∧ (t.monitor.legs.get l).age = (s.monitor.legs.get l).age)
      ∧ t = { s with
          monitor := { s.monitor with legs := t.monitor.legs }
          unit := { s.unit with reachHold := t.unit.reachHold }
          wires := { s.wires with reports := rest } }

/-! ## The balance unit -/

/-- BODY_RECORD with a usable record (R65, R67): the held values become the record's, the unusable count 0, and blindness ends with
BODY-RESTORED.

TILT and FALL (R77, R78): a usable record past a limit raises, in STANDING, WALKING and STOPPING, the line with the larger deviation
and disarms the arm, each where its arm is armed, TILT first; in CONFIG and SAFE it raises nothing and leaves the arm; a record
within the limit re-arms the arm in every operating state. The reference is the one in force, and at the sixteenth record of a
relevel capture the new one (R70). -/
def Obligations.UsableRecordIsHeldAndTested : Prop :=
  (∀ (s : Machine.State) (r : BodyRec) (n : Nat) (rest : List HandedBody), s.wires.bodySlots = ⟨.fresh r, n⟩ :: rest → r.valid = true →
      ∃ t, exec .bodyRecord s = .next t
        ∧ t.balance.heldPitch = r.pitch ∧ t.balance.heldRoll = r.roll
        ∧ t.balance.heldPitchRate = max (-32767) (min 32767 r.pitchRate)
        ∧ t.balance.heldRollRate = max (-32767) (min 32767 r.rollRate)
        ∧ t.balance.unusable = 0 ∧ t.balance.blind = false
        ∧ (s.balance.blind = false → t.link = s.link)
        ∧ (s.balance.blind = true → t.link = s.link.post (newAlert .bodyRestored .none .none s.ring.tag 0))
        ∧ t.balance.bands = s.balance.bands ∧ t.balance.t1 = s.balance.t1 ∧ t.balance.t2 = s.balance.t2
        ∧ t.balance.t3 = s.balance.t3 ∧ t.balance.tiltWarning = s.balance.tiltWarning
        ∧ t.balance.fallLimit = s.balance.fallLimit
        ∧ t = { s with
            balance := t.balance, link := t.link
            wires := { s.wires with bodySlots := rest, raises := t.wires.raises } })
  ∧ (∀ (s : Machine.State) (r : BodyRec) (n : Nat) (rest : List HandedBody), s.wires.bodySlots = ⟨.fresh r, n⟩ :: rest → r.valid = true →
      let reference (old : Int) (total : Relevel → Int) : Int := match s.balance.relevel with
        | some k => if k.taken = 15 then max (-436) (min 436 (total k / 16)) else old
        | none => old
      let refPitch := reference s.balance.refPitch fun k => k.pitchSum + r.pitch
      let refRoll := reference s.balance.refRoll fun k => k.rollSum + r.roll
      let ep := (clampI (refPitch - r.pitch) (-4095) 4095).natAbs
      let er := (clampI (refRoll - r.roll) (-4095) 4095).natAbs
      let dp := (r.pitch - refPitch).natAbs
      let dr := (r.roll - refRoll).natAbs
      let live : Prop := s.sup.op = .standing ∨ s.sup.op = .walking ∨ s.sup.op = .stopping
      let tilt := s.balance.tiltWarning < max ep er
      let fall := s.balance.fallLimit < max dp dr
      ∃ t, exec .bodyRecord s = .next t
        ∧ t.wires.raises = s.wires.raises
            ++ (if live ∧ tilt ∧ s.balance.tiltArm = true then [{ line := 6, value := max ep er, tag := s.ring.tag }] else [])
            ++ (if live ∧ fall ∧ s.balance.fallArm = true then [{ line := 4, value := max dp dr, tag := s.ring.tag }] else [])
        ∧ (t.balance.tiltArm = true ↔ ¬tilt ∨ (¬live ∧ s.balance.tiltArm = true))
        ∧ (t.balance.fallArm = true ↔ ¬fall ∨ (¬live ∧ s.balance.fallArm = true)))

/-- BODY_BLIND (R66): the unusable slot that brings the count to the stale limit makes the unit blind, posts BODY-BLIND with the
count, keeps the held values, and every balance offset is then 0; further unusable slots while blind only count, up to 15. The stale
limit is the one the slot was handed with, as it stood at the sweep return (GoodReturnIsHandedInward).

RELEVEL_COMPLETE (R70): the sixteenth usable record sets the reference to the floors of the means, clamped, with source CAPTURED,
selects the band anew, and ends the capture without an alert; an earlier record joins the sums and leaves the reference.

That BODY_BLIND and RELEVEL_COMPLETE are the whole step of the body slot that brings them is the model's choice (log 4). -/
def Obligations.BodySlotsBlindAndRelevel : Prop :=
  (∀ (s : Machine.State) (slot : BodySlot) (limit : Nat) (rest : List HandedBody), s.wires.bodySlots = ⟨slot, limit⟩ :: rest →
      (slot = .stale ∨ ∃ r, slot = .fresh r ∧ r.valid = false) → s.balance.relevel = none →
      (s.balance.blind = true ∨ min (s.balance.unusable + 1) 15 < limit →
        exec .bodyRecord s = .next { s with
          balance := { s.balance with unusable := min (s.balance.unusable + 1) 15 }
          wires := { s.wires with bodySlots := rest } })
      ∧ (s.balance.blind = false → limit ≤ min (s.balance.unusable + 1) 15 →
        ∃ t, exec .bodyBlind s = .next t ∧ exec .bodyRecord s = .next t
          ∧ t = { s with
              balance := { s.balance with unusable := min (s.balance.unusable + 1) 15, blind := true }
              link := s.link.post (newAlert .bodyBlind .none .none s.ring.tag (min (s.balance.unusable + 1) 15))
              wires := { s.wires with bodySlots := rest } }
          ∧ ∀ l j, t.balance.offset l j = 0))
  ∧ (∀ (s : Machine.State) (r : BodyRec) (n : Nat) (rest : List HandedBody) (k : Relevel),
      s.wires.bodySlots = ⟨.fresh r, n⟩ :: rest → r.valid = true → s.balance.relevel = some k → s.balance.blind = false →
      ∃ t, exec .bodyRecord s = .next t
        ∧ (k.taken = 15 →
            exec .relevelComplete s = .next t
            ∧ t.balance.refPitch = max (-436) (min 436 ((k.pitchSum + r.pitch) / 16))
            ∧ t.balance.refRoll = max (-436) (min 436 ((k.rollSum + r.roll) / 16))
            ∧ t.balance.refSource = .captured ∧ t.balance.relevel = none
            ∧ t.balance.band = bandFor t.balance.refPitch s.balance.t1 s.balance.t2 s.balance.t3)
        ∧ (k.taken ≠ 15 →
            t.balance.relevel
              = some { taken := k.taken + 1, pitchSum := k.pitchSum + r.pitch, rollSum := k.rollSum + r.roll }
            ∧ t.balance.refPitch = s.balance.refPitch ∧ t.balance.refRoll = s.balance.refRoll
            ∧ t.balance.refSource = s.balance.refSource ∧ t.balance.band = s.balance.band)
        ∧ t.link = s.link ∧ t.engine = s.engine ∧ t.sup = s.sup)

/-- RELEVEL-ABORTED (R71): a capture in progress is abandoned, with the alert carrying the records taken, by an unusable body slot,
a lost sweep, the entry into WALKING and the entry into SAFE, with the reference, its source and the band as they were; and by a
stride frame with references, whose references then stand. A return of a wrong length loses its sweep (log 25). -/
def Obligations.RelevelAborted : Prop :=
  (∀ (s : Machine.State) (k : Relevel) (c : Instr),
    s.balance.relevel = some k → s.sup.op = .standing → s.sup.resetPending = false → s.link.alerts.length ≤ 9 →
    s.arbiter.stack.length ≤ 4 →
    ((c = .bodyRecord ∧ ∃ b rest, s.wires.bodySlots = b :: rest ∧ b.slot.usable = false)
      ∨ (c = .sweepIssue ∧ s.ring.inFlight.isSome = true)
      ∨ (∃ f fl, c = .ringReturn f ∧ s.ring.inFlight = some fl ∧ f.tag = fl.tag ∧ ringCrcGood f = false)
      ∨ (c = .walkRequest ∧ 0 < s.wires.walkRequests)
      ∨ (∃ cause, c = .safeRequest cause ∧ cause ∈ s.wires.safeRequests)) →
    ∃ t, exec c s = .next t ∧ t.balance.relevel = none
      ∧ (∃ a ∈ t.link.alerts, a.kind = .relevelAborted ∧ a.value = (k.taken : Int))
      ∧ t.balance.refPitch = s.balance.refPitch ∧ t.balance.refRoll = s.balance.refRoll
      ∧ t.balance.refSource = s.balance.refSource ∧ t.balance.band = s.balance.band)
  ∧ ∀ (s : Machine.State) (k : Relevel) (bs p : List Byte) (rest : List (List Byte)),
    s.balance.relevel = some k → s.sup.op = .standing → s.link.alerts.length ≤ 9 →
    s.wires.arrived = bs :: rest → judge bs = .stride p → (u8 p 7).testBit 1 = true →
    ∃ t, exec .strideFrame s = .next t ∧ t.balance.relevel = none
      ∧ (∃ a ∈ t.link.alerts, a.kind = .relevelAborted ∧ a.value = (k.taken : Int))
      ∧ t.balance.refPitch = max (-436) (min 436 (s16 p 9)) ∧ t.balance.refRoll = max (-436) (min 436 (s16 p 11))
      ∧ t.balance.refSource = .planner
      ∧ t.balance.band = bandFor t.balance.refPitch s.balance.t1 s.balance.t2 s.balance.t3

/-- R72, R75 and R76, with the law of R76: which legs receive the balance offset, what it is, and that it lies within the authority of
the band in use. -/
def Obligations.BalanceOffsetWithinAuthority : Prop :=
  ∀ (s : Machine.State) (l : LegId) (j : JointId),
    let b := s.balance
    let g := (b.bands.get b.band).get j
    let ep : Int := if b.blind = true then 0 else max (-4095) (min 4095 (b.refPitch - b.heldPitch))
    let er : Int := if b.blind = true then 0 else max (-4095) (min 4095 (b.refRoll - b.heldRoll))
    let wp : Int := if b.blind = true then 0 else b.heldPitchRate
    let wr : Int := if b.blind = true then 0 else b.heldRollRate
    let fh : Int := if l = .lf ∨ l = .rf then 1 else -1
    let lr : Int := if l = .lf ∨ l = .lh then 1 else -1
    let offset : Int := max (-(g.authority : Int)) (min g.authority
      ((fh * (g.kpPitch * ep - g.kdPitch * wp) + lr * (g.kpRoll * er - g.kdRoll * wr)) / 1024))
    s.balanceOffset l j ≤ g.authority ∧ -(g.authority : Int) ≤ s.balanceOffset l j
    ∧ (s.sup.op = .config → s.balanceOffset l j = 0)
    ∧ (s.sup.modes.get l = .stowed ∨ s.sup.modes.get l = .faulted → s.balanceOffset l j = 0)
    ∧ ((s.sup.op = .walking ∨ s.sup.op = .stopping) → s.sup.modes.get l = .active → (s.engine.slots.get l).swing = true →
        s.balanceOffset l j = 0)
    ∧ (s.sup.op ≠ .config → s.sup.modes.get l = .strut → s.balanceOffset l j = offset)
    ∧ (s.sup.modes.get l = .active →
        s.sup.op = .standing ∨ s.sup.op = .safe
          ∨ ((s.sup.op = .walking ∨ s.sup.op = .stopping) ∧ (s.engine.slots.get l).swing = false) →
        s.balanceOffset l j = offset)

/-! ## The phase engine -/

/-- ADVANCE at a sweep return that brings no advance (R28, R32, R41, R43): outside WALKING and STOPPING, or frozen by a HOLD,
RETRACT, PLANT or CROUCH on top, only the intent age and the hold-off count, and the phase update is issued.

LINK_LOSS (R42): in WALKING, the sweep return after which the intent age exceeds the timeout with the raise armed raises line 7
and disarms it. The value raised is free (log 5); that LINK_LOSS is the whole step of the ADVANCE that brings it is the model's choice
(log 4). -/
def Obligations.SweepReturnWithoutAdvance : Prop :=
  (∀ (s : Machine.State) (tag : Byte) (rest : List Byte), s.wires.sweepReturns = tag :: rest →
      (s.sup.op = .config ∨ s.sup.op = .standing ∨ s.sup.op = .safe
        ∨ ∃ e below, s.arbiter.stack = e :: below
            ∧ (e.action = .hold ∨ e.action = .retract ∨ e.action = .plant ∨ e.action = .crouch)) →
      (s.sup.op ≠ .walking ∨ min (s.engine.intentAge + 1) 65535 ≤ s.engine.walk.intentTimeout
        ∨ s.engine.linkLossArmed = false) →
      exec .advance s = .next { s with
        engine := { s.engine with intentAge := min (s.engine.intentAge + 1) 65535, holdOff := s.engine.holdOff - 1 }
        wires := { s.wires with sweepReturns := rest, phaseUpdates := s.wires.phaseUpdates ++ [tag] } })
  ∧ (∀ (s : Machine.State) (tag : Byte) (rest : List Byte), s.wires.sweepReturns = tag :: rest → s.sup.op = .walking →
      s.engine.walk.intentTimeout < min (s.engine.intentAge + 1) 65535 → s.engine.linkLossArmed = true →
      ∃ t v, exec .linkLoss s = .next t ∧ exec .advance s = .next t
        ∧ t.engine.linkLossArmed = false ∧ t.engine.intentAge = min (s.engine.intentAge + 1) 65535
        ∧ t.wires.raises = s.wires.raises ++ [{ line := 7, value := v, tag := s.ring.tag }]
        ∧ t.wires.phaseUpdates = s.wires.phaseUpdates ++ [tag]
        ∧ t.sup = s.sup ∧ t.arbiter = s.arbiter)

/-- ADVANCE without a gait to apply (R26 to R31, R37, R39, R41, R43): the master moves by the applied rate, an unparked playing leg
moves to the master plus its offset and in STOPPING parks when it crosses its touchdown phase, a parked one rejoins in WALKING when
its computed phase crosses its parked phase, and a non-playing slot takes no part. The report of each playing leg carries its
liftoff, its touchdown (for a leg that parks only where its new phase lies outside the swing window), its phases and what R31 hands
over with them; the intent age and the hold-off count the sweep return. -/
def Obligations.AdvanceMovesTheStride : Prop :=
  ∀ (s : Machine.State) (tag : Byte) (rest : List Byte) (r : Nat), s.wires.sweepReturns = tag :: rest →
    (s.sup.op = .walking ∨ s.sup.op = .stopping) → (∀ e ∈ s.arbiter.stack.head?, e.action = .stop) →
    SteppedRate s r → (s.engine.pendingGait = none ∨ s.engine.master.toNat + r < 65536) →
    ∃ t, exec .advance s = .next t
      ∧ t.engine.rate = r
      ∧ t.engine.amp = (if s.engine.amp ≤ s.engine.intent.ampTarget
          then min (s.engine.amp + s.engine.walk.ampStep) s.engine.intent.ampTarget
          else max (s.engine.amp - s.engine.walk.ampStep) s.engine.intent.ampTarget)
      ∧ t.engine.master = s.engine.master + BitVec.ofNat 16 r
      ∧ (∀ l, s.playing l = false → t.engine.slots.get l = s.engine.slots.get l)
      ∧ (∀ l, s.playing l = true →
          let sl := s.engine.slots.get l
          let h := s.header sl.bank
          let new : Phase := s.engine.master + BitVec.ofNat 16 r + sl.offset
          let inWindow : Bool := fwd h.liftoff new < fwd h.liftoff h.touchdown
          (sl.parked = none →
            (s.sup.op = .stopping ∧ 1 ≤ fwd sl.phase h.touchdown ∧ fwd sl.phase h.touchdown ≤ r →
              t.engine.slots.get l = { sl with phase := new, swing := false, parked := some new })
            ∧ (¬(s.sup.op = .stopping ∧ 1 ≤ fwd sl.phase h.touchdown ∧ fwd sl.phase h.touchdown ≤ r) →
              t.engine.slots.get l = { sl with phase := new, swing := inWindow }))
          ∧ (∀ p, sl.parked = some p →
            (s.sup.op = .walking ∧ 1 ≤ fwd (s.engine.master + sl.offset) p ∧ fwd (s.engine.master + sl.offset) p ≤ r →
              t.engine.slots.get l = { sl with phase := new, swing := inWindow, parked := none })
            ∧ (¬(s.sup.op = .walking ∧ 1 ≤ fwd (s.engine.master + sl.offset) p
                  ∧ fwd (s.engine.master + sl.offset) p ≤ r) →
              t.engine.slots.get l = sl)))
      ∧ (∃ reports, t.wires.reports = s.wires.reports ++ [reports]
          ∧ (∀ l, s.playing l = false → reports.get l = none)
          ∧ ∀ l, s.playing l = true →
            let before := s.engine.slots.get l
            let after := t.engine.slots.get l
            let h := s.header before.bank
            reports.get l = some {
              liftoff := !before.swing && after.swing
              touchdown := before.swing && !after.swing
                && !decide (fwd h.liftoff after.phase < fwd h.liftoff h.touchdown)
              parked := before.parked.isNone && after.parked.isSome
              oldPhase := before.phase, newPhase := after.phase, rate := r
              crossing := before.parked.isNone, kept := true, swingAfter := after.swing
              bank := before.bank, offset := before.offset })
      ∧ t.engine.intentAge = min (s.engine.intentAge + 1) 65535 ∧ t.engine.holdOff = s.engine.holdOff - 1
      ∧ t.engine.current = s.engine.current ∧ t.engine.pendingGait = s.engine.pendingGait
      ∧ t.engine.intent = s.engine.intent ∧ t.engine.walk = s.engine.walk
      ∧ (t.wires.allParked = (s.wires.allParked || (s.sup.op == .stopping && t.everyPlayingParked)))
      ∧ t.wires.phaseUpdates = s.wires.phaseUpdates ++ [tag]
      ∧ t = { s with
          engine := t.engine, freeDraws := t.freeDraws
          wires := { s.wires with
            sweepReturns := rest, phaseUpdates := t.wires.phaseUpdates, reports := t.wires.reports
            raises := t.wires.raises, allParked := t.wires.allParked } }

/-- ADVANCE at the wrap with a gait pending (R34): the pending entry becomes current and every playing slot takes its new bank,
offset and mirror flag; a leg that was unparked plays the master plus its new offset, and in STOPPING parks there where its new bank
has an empty swing window or its old phase crosses the new touchdown phase (R37); a parked leg takes the new touchdown phase, and in
WALKING rejoins where its phase computed with the new offset crosses it (R39). In the reports (R31) a leg so re-derived crosses nothing, and its liftoff and touchdown stand from
its swing flags. That it has kept its bank and offset where the new are equal to the old is log 13. -/
def Obligations.PendingGaitAppliesAtWrap : Prop :=
  ∀ (s : Machine.State) (tag : Byte) (rest : List Byte) (r g : Nat), s.wires.sweepReturns = tag :: rest →
    (s.sup.op = .walking ∨ s.sup.op = .stopping) → (∀ e ∈ s.arbiter.stack.head?, e.action = .stop) →
    SteppedRate s r → s.engine.pendingGait = some g → 65536 ≤ s.engine.master.toNat + r →
    ∃ t, exec .advance s = .next t
      ∧ t.engine.current = g ∧ t.engine.pendingGait = none
      ∧ t.engine.master = s.engine.master + BitVec.ofNat 16 r
      ∧ t.engine.intentAge = min (s.engine.intentAge + 1) 65535 ∧ t.engine.holdOff = s.engine.holdOff - 1
      ∧ (∀ l, slotMember (s.gait g) s.sup.modes l = none → t.engine.slots.get l = restSlot)
      ∧ (∀ l m mirror, slotMember (s.gait g) s.sup.modes l = some (m, mirror) →
          let sl := t.engine.slots.get l
          sl.bank = m.bank ∧ sl.offset = m.offset ∧ sl.mirror = mirror
          ∧ ((s.engine.slots.get l).parked = none → sl.phase = t.engine.master + m.offset)
          ∧ ((s.engine.slots.get l).parked.isSome = true → s.sup.op = .stopping →
              sl.parked = some (s.header m.bank).touchdown ∧ sl.phase = (s.header m.bank).touchdown ∧ sl.swing = false)
          ∧ ((s.engine.slots.get l).parked.isSome = true → s.sup.op = .walking →
              let down := (s.header m.bank).touchdown
              let ahead := fwd (s.engine.master + m.offset) down
              (1 ≤ ahead ∧ ahead ≤ r →
                sl.phase = t.engine.master + m.offset ∧ sl.parked = none ∧ sl.swing = (s.header m.bank).inSwing sl.phase)
              ∧ (¬(1 ≤ ahead ∧ ahead ≤ r) → sl.phase = down ∧ sl.parked = some down ∧ sl.swing = false))
          ∧ ((s.engine.slots.get l).parked = none → s.sup.op = .stopping →
              let ahead := fwd (s.engine.slots.get l).phase (s.header m.bank).touchdown
              let parks := (1 ≤ ahead ∧ ahead ≤ r) ∨ (s.header m.bank).emptyWindow = true
              (parks → sl.parked = some sl.phase ∧ sl.swing = false)
              ∧ (¬parks → sl.parked = none ∧ sl.swing = (s.header m.bank).inSwing sl.phase))
          ∧ ((s.engine.slots.get l).parked = none → s.sup.op = .walking →
              sl.parked = none ∧ sl.swing = (s.header m.bank).inSwing sl.phase))
      ∧ (∃ reports, t.wires.reports = s.wires.reports ++ [reports]
          ∧ (∀ l, slotMember (s.gait g) s.sup.modes l = none → reports.get l = none)
          ∧ ∀ l m mirror, slotMember (s.gait g) s.sup.modes l = some (m, mirror) →
            let before := s.engine.slots.get l
            let after := t.engine.slots.get l
            let h := s.header m.bank
            reports.get l = some {
              liftoff := !before.swing && after.swing
              touchdown := before.swing && !after.swing
                && !decide (fwd h.liftoff after.phase < fwd h.liftoff h.touchdown)
              parked := before.parked.isNone && after.parked.isSome
              oldPhase := before.phase, newPhase := after.phase, rate := r
              crossing := false, kept := decide (before.bank = m.bank ∧ before.offset = m.offset)
              swingAfter := after.swing, bank := m.bank, offset := m.offset })
      ∧ t.sup = s.sup ∧ t.arbiter = s.arbiter ∧ t.monitor = s.monitor ∧ t.banks = s.banks ∧ t.gaits = s.gaits

/-! ## The joint shaper -/

/-- The deviation between two knots (R124): it stands at the knot itself when the phase does, and always between the knot and its
successor, with knot 0 the successor of knot 31. -/
def Obligations.DeviationLiesBetweenKnots : Prop :=
  ∀ (k : List Int) (p : Phase),
    let i := p.toNat / 2048
    let a := k.getD i 0
    let b := k.getD ((i + 1) % 32) 0
    (p.toNat % 2048 = 0 → interpolate k p = a)
    ∧ min a b ≤ interpolate k p ∧ interpolate k p ≤ max a b

/-- COMPOSITION of a HOLD record (R123): in CONFIG, for a FAULTED leg and for an unset leg; the previous-valid flag is cleared, the
previous targets and the measured angles are kept.

COMPOSITION of a POSITION record (R123 to R131): each joint's target is the previous target (seeded by R129 where the flag is
clear), moved toward the raw target by at most the max step, and clamped into the joint's limits; the stiffness is the first row of
R131 that applies, and the tag that of the sweep whose return brought the phase update. The balance offset of the raw target is that
of BalanceOffsetWithinAuthority, the reflex offset that of ReflexOffsetIsKneeSum. -/
def Obligations.CompositionWritesEveryLeg : Prop :=
  (∀ (s : Machine.State) (tag : Byte) (rest : List Byte), s.wires.phaseUpdates = tag :: rest →
      ∃ t, exec .composition s = .next t
        ∧ (∀ l, (s.sup.op = .config ∨ s.sup.modes.get l = .faulted ∨ s.limits.get l = none) →
            t.shaper.get l = { s.shaper.get l with prevValid := false, record := .hold tag })
        ∧ t = { s with shaper := t.shaper, wires := { s.wires with phaseUpdates := rest } })
  ∧ (∀ (s : Machine.State) (tag : Byte) (rest : List Byte), s.wires.phaseUpdates = tag :: rest →
      ∃ t, exec .composition s = .next t
        ∧ ∀ l lims, s.sup.op ≠ .config → s.sup.modes.get l ≠ .faulted → s.limits.get l = some lims →
          let sl := s.engine.slots.get l
          let h := s.header sl.bank
          (t.shaper.get l).prevValid = true ∧ (t.shaper.get l).measured = (s.shaper.get l).measured
          ∧ (t.shaper.get l).record = .position (t.shaper.get l).prev
              (if s.sup.op = .safe then 15
                else if s.sup.modes.get l = .stowed then 10
                else if s.sup.modes.get l = .active ∧ sl.swing = true then h.swingStiff
                else h.stanceStiff) tag
          ∧ ∀ j raw prev,
            (prev = if (s.shaper.get l).prevValid = true then (s.shaper.get l).prev.get j
              else match (s.shaper.get l).record with
                | .hold _ => clampI ((s.shaper.get l).measured.get j) (lims.get j).min (lims.get j).max
                | .position targets _ _ => targets.get j) →
            RawTarget s l (lims.get j) j prev raw →
            (t.shaper.get l).prev.get j
              = clampI (prev + clampI (raw - prev) (-((lims.get j).maxStep : Int)) (lims.get j).maxStep)
                  (lims.get j).min (lims.get j).max)

/-- The second law of R130: two successive POSITION records of a leg differ by at most the max step on every joint. -/
def Obligations.SuccessivePositionsWithinMaxStep : Prop :=
  ∀ (s t : Machine.State) (l : LegId) (lims : PerJoint JointLimits) (a b : PerJoint Int) (ka kb : Nat) (ta tb : Byte),
    DriveLaw s → s.limits.get l = some lims → exec .composition s = .next t →
    (s.shaper.get l).record = .position a ka ta → (t.shaper.get l).record = .position b kb tb →
    ∀ j, (b.get j - a.get j).natAbs ≤ (lims.get j).maxStep

/-! ## The reflex arbiter and the reflex action unit -/

/-- RAISE with a disposition other than PENDED (R87, R88): the first case that applies; the DETECTED alert is posted, and the pending
set, the stack and the override level stay as they were. -/
def Obligations.RaiseNotPendedOnlyAlerts : Prop :=
  ∀ (s : Machine.State) (r : Machine.Raise) (rest : List Machine.Raise), s.wires.raises = r :: rest →
    let src := lineSource r.line
    let onStack : Prop := ∃ e ∈ s.arbiter.stack, e.line = r.line
    let detected (d : Disposition) : Machine.State := { s with
      wires := { s.wires with raises := rest }
      link := s.link.post (newAlert .detected (.line r.line) (.disposition d) r.tag r.value) }
    (s.sup.op = .config ∨ s.sup.op = .safe → exec (.raise r.line) s = .next (detected .ignored))
    ∧ (s.sup.op.isLive = true → onStack → exec (.raise r.line) s = .next (detected .coalesced))
    ∧ (s.sup.op.isLive = true → ¬onStack → 6 ≤ r.line → (s.arbiter.settings src).enabled = false →
        exec (.raise r.line) s = .next (detected .disabled))
    ∧ (s.sup.op.isLive = true → ¬onStack → 6 ≤ r.line → (s.arbiter.settings src).enabled = true →
        (s.arbiter.settings src).priority ≤ 6 → 0 < s.engine.holdOff →
        exec (.raise r.line) s = .next (detected .held))

/-- RAISE of a line that is PENDED (R87, R90 to R93): DETECTED is posted with PENDED, the line joins the pending set, and the arbiter
re-examines: nothing is taken where no pending line beats the override level or nesting off holds it back, and else the candidate,
of the highest priority and among equals the lowest number, is pushed on top, a full stack shedding its bottom entry
(`Reexamined`). That a taken RING-LOSS enters SAFE within the command is log 17, and that the finished mark carries an outcome to POP
log 19, both the model's own. -/
def Obligations.RaisePushesEntry : Prop :=
  ∀ (s : Machine.State) (r : Machine.Raise) (rest : List Machine.Raise), s.wires.raises = r :: rest → r.line < 32 →
    let c := s.arbiter.settings (lineSource r.line)
    s.sup.op.isLive = true → (∀ e ∈ s.arbiter.stack, e.line ≠ r.line) →
    (r.line ≤ 5 ∨ (c.enabled = true ∧ (7 ≤ c.priority ∨ s.engine.holdOff = 0))) →
    Reexamined { s with
        wires := { s.wires with raises := rest }
        arbiter := { s.arbiter with pending := s.arbiter.pending ||| BitVec.twoPow 32 r.line }
        link := s.link.post (newAlert .detected (.line r.line) (.disposition .pended) r.tag r.value) }
      (exec (.raise r.line) s)

/-- RAISE of a line whose action is NOTE (R92 step 2): three alerts, and no entry.

RAISE of line 5 with the override level below 8 (R102): the taken RING-LOSS brings SAFE with FREEZE posture at once; the stack and
the pending set are emptied, within the command, and a pending soft reset is applied upon it (R159), within it too (log 17). -/
def Obligations.RaiseOfNoteAndRingLoss : Prop :=
  (∀ (s : Machine.State) (r : Machine.Raise) (rest : List Machine.Raise), s.wires.raises = r :: rest →
      6 ≤ r.line → r.line < 32 →
      let c := s.arbiter.settings (lineSource r.line)
      s.sup.op.isLive = true → (∀ e ∈ s.arbiter.stack, e.line ≠ r.line) → s.arbiter.pending = 0 →
      c.enabled = true → s.engine.holdOff = 0 → s.arbiter.level < c.priority →
      (s.arbiter.nesting = true ∨ s.arbiter.stack = []) → c.action = .note →
      exec (.raise r.line) s = .next { s with
        wires := { s.wires with raises := rest }
        link := ((s.link.post (newAlert .detected (.line r.line) (.disposition .pended) r.tag r.value)).post
            (newAlert .reflexTaken (.line r.line) .none s.ring.tag 0)).post
            (newAlert .reflexDone (.line r.line) (.outcome .complete) s.ring.tag 0) })
  ∧ (∀ (s : Machine.State) (r : Machine.Raise) (rest : List Machine.Raise), s.wires.raises = r :: rest → r.line = 5 →
      ArbiterLaw s → s.sup.op.isLive = true → (∀ e ∈ s.arbiter.stack, e.line ≠ 5) → s.arbiter.pending = 0 →
      s.arbiter.level < 8 →
      ∃ t, exec (.raise 5) s = .next t
        ∧ (s.sup.resetPending = true → SoftResetLeaves s t)
        ∧ (s.sup.resetPending = false →
            t.sup = { s.sup with op := .safe, posture := some .freeze }
            ∧ t.arbiter = { s.arbiter with stack := [], pending := 0, level := 0 }
            ∧ t.engine = { s.engine with rate := 0, holdOff := 0, pendingGait := none }
            ∧ t.unit.weight = 0 ∧ t.unit.finished = .clear
            ∧ t.shaper = s.shaper ∧ t.ring = s.ring ∧ t.banks = s.banks ∧ t.gaits = s.gaits ∧ t.limits = s.limits))

/-- REFLEX_STEP (R106, R107 to R109, R115): the unfinished top entry's progress rises by 1 and its action makes its step; suspended
entries take no part. The step here does not finish the action. -/
def Obligations.ReflexStepCountsTop : Prop :=
  ∀ (s : Machine.State) (e : Entry) (below : List Entry), s.arbiter.stack = e :: below → 0 < s.wires.reflexReturns →
    let s0 : Machine.State := { s with wires := { s.wires with reflexReturns := s.wires.reflexReturns - 1 } }
    let grown := min (e.reach + e.parameter) 1023
    let weight := min 256 (256 * (e.progress + 1) / e.duration)
    (s.unit.finished ≠ .clear → exec .reflexStep s = .next s0)
    ∧ (s.unit.finished = .clear →
      (e.action = .stop ∨ ((e.action = .hold ∨ e.action = .retract) ∧ e.progress + 1 < e.duration) →
        exec .reflexStep s = .next { s0 with arbiter := { s.arbiter with
          stack := { e with progress := e.progress + 1 } :: below } })
      ∧ (e.action = .plant → grown < min (e.parameter * e.duration) 1023 →
        exec .reflexStep s = .next { s0 with arbiter := { s.arbiter with
          stack := { e with progress := e.progress + 1, reach := grown, contribution := -(grown : Int) } :: below } })
      ∧ (e.action = .crouch → weight < 256 →
        exec .reflexStep s = .next { s0 with
          arbiter := { s.arbiter with stack := { e with progress := e.progress + 1 } :: below }
          unit := { s.unit with weight := weight } }))

/-- HOLD_COMPLETE, RETRACT_COMPLETE, PLANT_FAILED and CROUCH_COMPLETE (R107, R108, R109, R111, R115, R116): the sweep return that
finishes the top entry's action sets the finished mark and makes the action's report or request, once; REFLEX_STEP at that sweep
return is the same step. That each named row is the whole counted sweep return is the model's choice (log 4), and that the mark carries
the report until POP is its own means (log 19). -/
def Obligations.ActionsFinish : Prop :=
  ∀ (s : Machine.State) (e : Entry) (below : List Entry), s.arbiter.stack = e :: below → 0 < s.wires.reflexReturns →
    s.unit.finished = .clear →
    let s0 : Machine.State := { s with wires := { s.wires with reflexReturns := s.wires.reflexReturns - 1 } }
    let counted : Arbiter := { s.arbiter with stack := { e with progress := e.progress + 1 } :: below }
    let grown := min (e.reach + e.parameter) 1023
    let finishes (c : Instr) (t : Machine.State) : Prop := exec c s = .next t ∧ exec .reflexStep s = .next t
    (e.action = .hold → e.duration ≤ e.progress + 1 → 6 ≤ e.line →
      finishes .holdComplete { s0 with
        arbiter := counted, unit := { s.unit with finished := .reported .complete } })
    ∧ (∀ l, e.action = .hold → e.duration ≤ e.progress + 1 → e.line = l.num → e.leg = some l →
      finishes .holdComplete { s0 with
        arbiter := counted, unit := { s.unit with finished := .askedSafe }
        wires := { s0.wires with safeRequests := s.wires.safeRequests ++ [.driveFaultHold l] } })
    ∧ (e.action = .retract → e.duration ≤ e.progress + 1 →
      finishes .retractComplete { s0 with
        arbiter := counted, unit := { s.unit with finished := .reported .complete } })
    ∧ (∀ l, e.action = .plant → e.leg = some l → min (e.parameter * e.duration) 1023 ≤ grown →
      finishes .plantFailed { s0 with
        arbiter := { s.arbiter with
          stack := { e with progress := e.progress + 1, reach := grown, contribution := -(grown : Int) } :: below }
        unit := { s.unit with finished := .reported .failed }
        link := s.link.post (newAlert .hole (.leg l) (.line e.line) s.ring.tag grown)
        wires := { s0.wires with stopRequests := s.wires.stopRequests + 1 } })
    ∧ (e.action = .crouch → 256 ≤ 256 * (e.progress + 1) / e.duration →
      finishes .crouchComplete { s0 with
        arbiter := counted, unit := { s.unit with weight := 256, finished := .askedSafe }
        wires := { s0.wires with safeRequests := s.wires.safeRequests ++ [.fallCrouch] } })

/-- POP (R95, R112, R114): the finished top entry leaves with REFLEX-DONE carrying its outcome and progress, the level becomes the
new top's priority, a PLANT's reach passes into its leg's reach-hold, the entry below resumes from the progress it had reached, and
the arbiter re-examines, so that a pending line that now beats the level is taken (`EntryPopped`, `Reexamined`). That the finished mark carries the
outcome from its report to POP is the model's own means (log 19), and a taken RING-LOSS enters SAFE within the command (log 17). -/
def Obligations.PopRemovesFinishedTop : Prop :=
  ∀ (s : Machine.State) (o : EndOutcome) (e : Entry) (below : List Entry),
    s.unit.finished = .reported o → s.arbiter.stack = e :: below →
    ∃ q, EntryPopped s q o e below ∧ Reexamined q (exec .pop s)

/-- R113 with its law: AB and HF take no reflex offset; the knee takes the contributions of the leg's RETRACT and PLANT entries less
its reach-hold, clamped. That no entry of another action carries a contribution is part of ReflexUnitLaw (StepKeepsUnitLaws). -/
def Obligations.ReflexOffsetIsKneeSum : Prop :=
  ∀ (s : Machine.State) (l : LegId), ReflexUnitLaw s →
    s.reflexOffset l .ab = 0 ∧ s.reflexOffset l .hf = 0
    ∧ s.reflexOffset l .kn = max (-1023) (min 1023
        (((s.arbiter.stack.filter fun e => e.leg = some l ∧ (e.action = .retract ∨ e.action = .plant)).map
          Entry.contribution).sum - (s.unit.reachHold.get l : Int)))
    ∧ ((∀ e ∈ s.arbiter.stack, e.leg = some l → e.action ≠ .retract ∧ e.action ≠ .plant) → s.unit.reachHold.get l = 0 →
        ∀ j, s.reflexOffset l j = 0)
    ∧ ∀ j, -1023 ≤ s.reflexOffset l j ∧ s.reflexOffset l j ≤ 1023

/-! ## The supervisor -/

/-- WALK_REQUEST (R149, R114): from STANDING or STOPPING with no reset pending the supervisor enters WALKING, and a STOP on top that
has not finished asks again; while a reset is pending, and in every other state, the request changes nothing. No relevel capture
is in progress (RelevelAborted has that case).

STOP_REQUEST (R150, R36): in WALKING the supervisor enters STOPPING, and each playing, unparked leg whose bank has an empty swing
window parks where it is. Where some leg remains unparked STOPPING lasts; where every playing leg is then parked the supervisor
passes on to STANDING (`StandingEntered`), within the command (log 17), and a STOP on top that has not finished is popped within it
too (log 18). In any other state the request changes nothing. -/
def Obligations.WalkAndStopRequestsAct : Prop :=
  (∀ s : Machine.State, 0 < s.wires.walkRequests → s.balance.relevel = none →
      let w0 : Wires := { s.wires with walkRequests := s.wires.walkRequests - 1 }
      ((s.sup.op = .standing ∨ s.sup.op = .stopping) → s.sup.resetPending = false →
        exec .walkRequest s = .next { s with
          sup := { s.sup with op := .walking }
          link := s.link.post (newAlert .stateChange .none (.state .walking none) s.ring.tag (opCode s.sup.op))
          wires := { w0 with stopRequests := s.wires.stopRequests
            + (if (s.arbiter.stack.head?.map Entry.action) = some .stop ∧ s.unit.finished = .clear then 1 else 0) } })
      ∧ ((s.sup.op = .config ∨ s.sup.op = .walking ∨ s.sup.op = .safe ∨ s.sup.resetPending = true) →
        exec .walkRequest s = .next { s with wires := w0 }))
  ∧ (∀ s : Machine.State, 0 < s.wires.stopRequests →
      let w0 : Wires := { s.wires with stopRequests := s.wires.stopRequests - 1 }
      (s.sup.op ≠ .walking → exec .stopRequest s = .next { s with wires := w0 })
      ∧ (s.sup.op = .walking →
        let lasts : Prop := ∃ l, s.playing l = true ∧ (s.engine.slots.get l).parked = none
          ∧ (s.header (s.engine.slots.get l).bank).emptyWindow = false
        ∃ q t, exec .stopRequest s = .next t
          ∧ StoppingEntered { s with wires := w0 } q
          ∧ (lasts → t = q)
          ∧ (¬lasts → StandingEntered q t)))

/-- ALL_PARKED (R149, R40, R114, R159): STANDING is entered with r at 0 and A kept; a pending gait becomes current at once, every
playing slot parked at its new bank's touchdown phase; an unfinished STOP on top completes and leaves, within the command (log 18),
and the arbiter re-examines; and a pending soft reset is applied once the entry has been made in full (log 17), its alerts after
those of the entry. STATE-CHANGE comes before the STOP's REFLEX-DONE (log 15). The second clause says it of a state with no reset
pending and nothing waiting behind a STOP, the third of every state. A report that a playing leg has since made untrue changes nothing
(log 28). -/
def Obligations.AllParkedEntersStanding : Prop :=
  ∀ s : Machine.State, s.wires.allParked = true →
    (s.sup.op ≠ .stopping → exec .allParked s = .next { s with wires := { s.wires with allParked := false } })
    ∧ (s.sup.op = .stopping → s.everyPlayingParked = true → s.sup.resetPending = false →
      (s.arbiter.stack = [] ∨ (∃ e, s.arbiter.stack = [e] ∧ e.action = .stop ∧ s.unit.finished = .clear)) →
      s.arbiter.pending = 0 →
      ∃ t, exec .allParked s = .next t
        ∧ t.sup = { s.sup with op := .standing }
        ∧ t.engine.rate = 0 ∧ t.engine.amp = s.engine.amp ∧ t.engine.master = s.engine.master
        ∧ t.engine.pendingGait = none ∧ t.arbiter.stack = [] ∧ t.arbiter.pending = 0
        ∧ (s.engine.pendingGait = none → t.engine.slots = s.engine.slots ∧ t.engine.current = s.engine.current)
        ∧ (∀ g, s.engine.pendingGait = some g →
            t.engine.current = g
            ∧ ∀ l m mirror, slotMember (s.gait g) s.sup.modes l = some (m, mirror) →
              t.engine.slots.get l = { bank := m.bank, offset := m.offset, mirror := mirror
                                       phase := (s.header m.bank).touchdown, swing := false
                                       parked := some (s.header m.bank).touchdown })
        ∧ t.wires.allParked = false ∧ t.ring = s.ring ∧ t.shaper = s.shaper ∧ t.balance = s.balance
        ∧ t.banks = s.banks ∧ t.gaits = s.gaits)
    ∧ (s.sup.op = .stopping → s.everyPlayingParked = true → ∃ t, exec .allParked s = .next t ∧ StandingEntered s t)
    ∧ (s.sup.op = .stopping → s.everyPlayingParked = false →
        exec .allParked s = .next { s with wires := { s.wires with allParked := false } })

/-- SAFE_REQUEST (R151, R96, R40, R54, R71, R112, R118, R159, R162): a waiting request enters SAFE with its posture from STANDING,
WALKING and STOPPING; every entry leaves the stack, the requesting top one with REFLEX-DONE COMPLETE and the rest ABANDONED
(`SafeAlerts`, the alerts in the order of log 15), and each leg's reach-hold takes the reaches of all its PLANTs. A pending soft reset
is then applied, within the command (log 17), its alerts after those of the entry, and leaves what waits between the blocks as it is
(log 21). In CONFIG and SAFE the request changes nothing. -/
def Obligations.SafeRequestEntersSafe : Prop :=
  ∀ (s : Machine.State) (c : SafeCause), c ∈ s.wires.safeRequests →
    let w0 : Wires := { s.wires with safeRequests := s.wires.safeRequests.erase c }
    let posture : Posture := match c with | .fallCrouch => .crouch | .driveFaultHold _ => .freeze
    let line : Nat := match c with | .fallCrouch => 4 | .driveFaultHold l => l.num
    let entered : Link := SafeAlerts s s.link
      (if s.arbiter.stack.head?.map Entry.line = some line then .complete else .abandoned) posture
    (s.sup.op.isLive = false → exec (.safeRequest c) s = .next { s with wires := w0 })
    ∧ (s.sup.op.isLive = true → s.sup.resetPending = true →
      ∃ t, exec (.safeRequest c) s = .next t ∧ SoftResetLeaves s t ∧ t.link = ResetAlerts entered s.ring.tag .safe []
        ∧ t.wires = w0)
    ∧ (s.sup.op.isLive = true → s.sup.resetPending = false →
      ∃ t, exec (.safeRequest c) s = .next t
        ∧ t.sup = { s.sup with op := .safe, posture := some posture }
        ∧ t.arbiter = { s.arbiter with stack := [], pending := 0, level := 0 }
        ∧ t.engine = { s.engine with rate := 0, holdOff := 0, pendingGait := none }
        ∧ t.unit.weight = 0 ∧ t.unit.finished = .clear
        ∧ (∀ l, let plants := s.arbiter.stack.filter fun e => e.action = .plant ∧ e.leg = some l
            t.unit.reachHold.get l = if plants = [] then s.unit.reachHold.get l
              else min (s.unit.reachHold.get l + (plants.map Entry.reach).sum) 1023)
        ∧ t.link = entered
        ∧ (∀ l, t.monitor.legs.get l = { s.monitor.legs.get l with capture := none })
        ∧ t.monitor.settings = s.monitor.settings
        ∧ t.balance = { s.balance with relevel := none }
        ∧ t.shaper = s.shaper ∧ t.ring = s.ring ∧ t.limits = s.limits ∧ t.banks = s.banks ∧ t.gaits = s.gaits
        ∧ t.wires = w0)

/-- RESET (R158, R160): in CONFIG, STANDING and SAFE the reply DONE enters the queue and the reset is applied, with the alerts of R160:
REFLEX-DONE with ABANDONED for each entry from the top down, STATE-CHANGE unless the state was CONFIG, RESET-DONE (`ResetAlerts`).
In WALKING and STOPPING the reply is DEFERRED and the reset is pending with a quiesce count of 0, unless it was pending already. In
WALKING STOPPING is entered; where every playing leg is then parked, STANDING is, and the reset is applied upon it (R36, R150, R159;
`StandingEntered`), within the command (log 17), which also pops a STOP on top that has not finished (log 18).

QUIESCE_EXPIRY (R159, R160): at 4000 the pending reset is applied from STOPPING. The reset at an entry into STANDING or SAFE is stated with
the entry: AllParkedEntersStanding, SafeRequestEntersSafe, LaterDriveFailures, RaiseOfNoteAndRingLoss. -/
def Obligations.ResetAppliesOrWaits : Prop :=
  (∀ (s : Machine.State) (f : CmdFrame), s.busyWith .reset f →
      ((s.sup.op = .config ∨ s.sup.op = .standing ∨ s.sup.op = .safe) →
        ∃ t, exec .reset s = .next t ∧ SoftResetLeaves s t
          ∧ t.link = ResetAlerts (s.reply f .done []).link s.ring.tag s.sup.op s.arbiter.stack)
      ∧ (s.sup.op = .walking →
        let s0 : Machine.State := { s.reply f .deferred [] with sup := { s.sup with resetPending := true, quiesce := 0 } }
        let lasts : Prop := ∃ l, s.playing l = true ∧ (s.engine.slots.get l).parked = none
          ∧ (s.header (s.engine.slots.get l).bank).emptyWindow = false
        ∃ q t, exec .reset s = .next t ∧ StoppingEntered s0 q
          ∧ (lasts → t = q)
          ∧ (¬lasts → StandingEntered q t))
      ∧ (s.sup.op = .stopping → s.sup.resetPending = false →
        exec .reset s = .next { s.reply f .deferred [] with sup := { s.sup with resetPending := true, quiesce := 0 } })
      ∧ (s.sup.op = .stopping → s.sup.resetPending = true → exec .reset s = .next (s.reply f .deferred [])))
  ∧ (∀ s : Machine.State, s.sup.resetPending = true → s.sup.op = .stopping →
      (s.sup.quiesce = 4000 →
        ∃ t, exec .quiesceExpiry s = .next t ∧ SoftResetLeaves s t
          ∧ t.link = ResetAlerts s.link s.ring.tag .stopping s.arbiter.stack)
      ∧ (s.sup.quiesce < 4000 → exec .quiesceExpiry s = .next s))

/-- RELEASE and RESUME (R152, R153): the states and conditions under which each is refused, and what acceptance does: STANDING is
entered with its STATE-CHANGE (R162), every previous-valid flag is cleared, every reach-hold is 0, every playing leg parks at
touchdown, r is 0, and the FALL arm is armed; RELEASE also makes every contact UNKNOWN. A RELEASE accepted with two legs FAULTED or
more passes through STANDING into SAFE with FREEZE posture at once (R156), within the command (log 17). -/
def Obligations.ReleaseAndResumeStartStanding : Prop :=
  ∀ (s : Machine.State) (f : CmdFrame) (c : Instr),
    let ready : Prop := legal (s.gait s.engine.current) s.sup.modes = true ∧ s.ring.up = true
    let legsReady : Prop := ∀ l, s.sup.modes.get l = .active ∨ s.sup.modes.get l = .strut →
      (s.limits.get l).isSome = true ∧ s.ring.lastFresh.get l = true
    (s.busyWith .release f → s.sup.op ≠ .config → exec .release s = .next (s.refuse f .state))
    ∧ (s.busyWith .release f → s.sup.op = .config → ¬(ready ∧ legsReady) → exec .release s = .next (s.refuse f .notReady))
    ∧ (s.busyWith .resume f → s.sup.op ≠ .safe → exec .resume s = .next (s.refuse f .state))
    ∧ (s.busyWith .resume f → s.sup.op = .safe → ¬(ready ∧ faultedCount s.sup.modes = 0) →
        exec .resume s = .next (s.refuse f .notReady))
    ∧ ((c = .release ∧ s.busyWith .release f ∧ s.sup.op = .config ∧ ready ∧ legsReady ∧ faultedCount s.sup.modes ≤ 1)
        ∨ (c = .resume ∧ s.busyWith .resume f ∧ s.sup.op = .safe ∧ ready ∧ faultedCount s.sup.modes = 0) →
      ∃ t, exec c s = .next t
        ∧ t.sup = { s.sup with op := .standing, posture := none }
        ∧ (∀ l, t.shaper.get l = { s.shaper.get l with prevValid := false })
        ∧ (∀ l, t.unit.reachHold.get l = 0)
        ∧ (∀ l m mirror, slotMember (s.gait s.engine.current) s.sup.modes l = some (m, mirror) →
            t.engine.slots.get l = { bank := m.bank, offset := m.offset, mirror := mirror
                                     phase := (s.header m.bank).touchdown, swing := false
                                     parked := some (s.header m.bank).touchdown })
        ∧ (∀ l, slotMember (s.gait s.engine.current) s.sup.modes l = none → t.engine.slots.get l = restSlot)
        ∧ t.engine.rate = 0 ∧ t.engine.amp = s.engine.amp ∧ t.engine.master = s.engine.master
        ∧ t.balance = { s.balance with fallArm := true }
        ∧ (c = .release → ∀ l, (t.monitor.legs.get l).contact = .unknown ∧ (t.monitor.legs.get l).onCount = 0
            ∧ (t.monitor.legs.get l).offCount = 0)
        ∧ (c = .resume → ∀ l, (t.monitor.legs.get l).contact = (s.monitor.legs.get l).contact)
        ∧ t.arbiter = s.arbiter ∧ t.ring = s.ring ∧ t.limits = s.limits ∧ t.banks = s.banks ∧ t.gaits = s.gaits
        ∧ t.link = (s.reply f .done []).link.post
            (newAlert .stateChange .none (.state .standing none) s.ring.tag (opCode s.sup.op)))
    ∧ (s.busyWith .release f → s.sup.op = .config → ready → legsReady → 2 ≤ faultedCount s.sup.modes →
        s.arbiter.stack = [] → s.sup.resetPending = false →
      ∃ t, exec .release s = .next t
        ∧ t.sup = { s.sup with op := .safe, posture := some .freeze }
        ∧ t.link = SafeAlerts { s with sup := { s.sup with op := .standing } }
            ((s.reply f .done []).link.post (newAlert .stateChange .none (.state .standing none) s.ring.tag 0)) .abandoned .freeze
        ∧ t.arbiter = { s.arbiter with pending := 0, stack := [], level := 0 }
        ∧ t.engine.rate = 0 ∧ t.engine.holdOff = 0 ∧ t.engine.pendingGait = none
        ∧ (∀ l, t.engine.slots.get l = (match slotMember (s.gait s.engine.current) s.sup.modes l with
            | some (m, mirror) => { bank := m.bank, offset := m.offset, mirror := mirror
                                    phase := (s.header m.bank).touchdown, swing := false
                                    parked := some (s.header m.bank).touchdown }
            | none => restSlot))
        ∧ (∀ l, t.shaper.get l = { s.shaper.get l with prevValid := false } ∧ t.unit.reachHold.get l = 0
            ∧ t.monitor.legs.get l
              = { s.monitor.legs.get l with contact := .unknown, onCount := 0, offCount := 0, capture := none })
        ∧ t.unit.weight = 0 ∧ t.balance = { s.balance with fallArm := true, relevel := none }
        ∧ t.ring = s.ring ∧ t.limits = s.limits ∧ t.banks = s.banks ∧ t.gaits = s.gaits ∧ t.wires = s.wires)

/-- SET_LEG_MODE (R157, R154): its checks in order, and what acceptance does: the mode and the entry are set together, the leg's
reach-hold becomes 0 when its mode changes (a mode that the leg already has changes none, and leaves it: log 30), the rate target is
clamped anew, and where the entry changes every playing slot parks at touchdown. Where the entry is the current one (R20), a leg that
stays playing with the same member keeps its slot whole, one that begins playing or plays another member parks at touchdown, and one
that stops playing takes the non-playing values. A capture is abandoned where the leg no longer plays, or plays another bank or
offset (R54). -/
def Obligations.SetLegModeSetsModeAndGait : Prop :=
  ∀ (s : Machine.State) (f : CmdFrame) (l : LegId) (m : Mode), s.busyWith .setLegMode f →
    (s.sup.op = .walking ∨ s.sup.op = .stopping → exec .setLegMode s = .next (s.refuse f .state))
    ∧ (s.sup.op ≠ .walking → s.sup.op ≠ .stopping →
      let n := u8 f.args 2
      let after := s.sup.modes.set l m
      (3 < u8 f.args 0 ∨ 2 < u8 f.args 1 ∨ 15 < n → exec .setLegMode s = .next (s.refuse f .range))
      ∧ (u8 f.args 0 = l.num → u8 f.args 1 = m.code → m ≠ .faulted → n ≤ 15 →
        (2 ≤ outCount after → exec .setLegMode s = .next (s.refuse f .range))
        ∧ (outCount after ≤ 1 →
          (legal (s.gait n) after = false
              ∨ (s.sup.op ≠ .config ∧ s.limits.get l = none ∧ (m = .active ∨ m = .strut)) →
            exec .setLegMode s = .next (s.refuse f .notReady))
          ∧ (legal (s.gait n) after = true →
              (s.sup.op = .config ∨ (s.limits.get l).isSome = true ∨ m = .stowed) →
            ∃ t, exec .setLegMode s = .next t
              ∧ t.sup = { s.sup with modes := after } ∧ t.engine.current = n
              ∧ t.engine.intent.rateTarget
                  = clampN s.engine.intent.rateTarget s.engine.walk.rateFloor (rateCap s.engine.walk after)
              ∧ (s.sup.modes.get l ≠ m → t.unit.reachHold = s.unit.reachHold.set l 0)
              ∧ (s.sup.modes.get l = m → t.unit = s.unit)
              ∧ (n ≠ s.engine.current → ∀ i g mirror, slotMember (s.gait n) after i = some (g, mirror) →
                  t.engine.slots.get i = { bank := g.bank, offset := g.offset, mirror := mirror
                                           phase := (s.header g.bank).touchdown, swing := false
                                           parked := some (s.header g.bank).touchdown })
              ∧ (n = s.engine.current → ∀ i g mirror, slotMember (s.gait n) after i = some (g, mirror) →
                  let old := s.engine.slots.get i
                  let same : Prop := old.bank = g.bank ∧ old.offset = g.offset ∧ old.mirror = mirror
                  (s.playing i = true → same → t.engine.slots.get i = old)
                  ∧ (¬same ∨ (s.playing i = false ∧ ProfileLaw s ∧ SlotLaw s) →
                    t.engine.slots.get i = { bank := g.bank, offset := g.offset, mirror := mirror
                                             phase := (s.header g.bank).touchdown, swing := false
                                             parked := some (s.header g.bank).touchdown }))
              ∧ (∀ i, slotMember (s.gait n) after i = none → t.engine.slots.get i = restSlot)
              ∧ (∀ i, t.monitor.legs.get i = (match slotMember (s.gait n) after i with
                  | some (g, _) =>
                    if (s.engine.slots.get i).bank = g.bank ∧ (s.engine.slots.get i).offset = g.offset then
                      s.monitor.legs.get i
                    else { s.monitor.legs.get i with capture := none }
                  | none => { s.monitor.legs.get i with capture := none }))
              ∧ t.link = (s.reply f .done []).link ∧ t.arbiter = s.arbiter ∧ t.shaper = s.shaper ∧ t.balance = s.balance
              ∧ t.ring = s.ring ∧ t.banks = s.banks ∧ t.gaits = s.gaits ∧ t.limits = s.limits))))

/-! ## The planner link -/

/-- BYTE_RECEIVED (R164, R187): the bytes of a whole frame of any kind, received one by one from HUNTING, leave the reassembly HUNTING
with exactly that frame arrived, its CRC agreeing; and a frame of a planner kind and a fitting length is received with the payload
that was sent, while any other kind or length is dropped. So the envelope the bridge sends with is the one it receives with. -/
def Obligations.FrameSurvivesTheEnvelope : Prop :=
  ∀ (s : Machine.State) (kind : Byte) (payload : List Byte), s.link.rx = .hunting → payload.length ≤ 120 →
    ∃ bs, envelope kind payload = 0xC3 :: bs
      ∧ feed (envelope kind payload) s = .next { s with wires := { s.wires with arrived := s.wires.arrived ++ [bs] } }
      ∧ arrivedCrcGood bs = true
      ∧ (kind = 1 → payload.length = 14 → judge bs = .stride payload)
      ∧ (kind = 1 → payload.length ≠ 14 → judge bs = .dropped)
      ∧ (kind = 2 → 2 ≤ payload.length → judge bs = .command ⟨false, payload⟩)
      ∧ (kind = 3 → 2 ≤ payload.length → judge bs = .command ⟨true, payload⟩)
      ∧ (kind = 2 ∨ kind = 3 → payload.length < 2 → judge bs = .dropped)
      ∧ (kind ≠ 1 → kind ≠ 2 → kind ≠ 3 → judge bs = .dropped)

/-- BYTE_RECEIVED (R164): while HUNTING only the start byte matters; a length byte above 120 drops the frame; a byte without its stop
bit drops the frame being collected and is not taken as a start byte. Nothing but the reassembly changes.

FRAME_DROPPED (R164): an arrived frame whose CRC differs, whose kind is no planner kind, or whose length does not fit its kind, is
dropped, and nothing changes. -/
def Obligations.BytesAndFramesAreDropped : Prop :=
  (∀ (s : Machine.State) (b : Byte),
      exec (.byteReceived b false) s = .next { s with link := { s.link with rx := .hunting } }
      ∧ (s.link.rx = .hunting → b ≠ 0xC3 → exec (.byteReceived b true) s = .next s)
      ∧ (s.link.rx = .hunting → b = 0xC3 →
          exec (.byteReceived b true) s = .next { s with link := { s.link with rx := .collecting [] } })
      ∧ (s.link.rx = .collecting [] → 120 < b.toNat →
          exec (.byteReceived b true) s = .next { s with link := { s.link with rx := .hunting } })
      ∧ (s.link.rx = .collecting [] → b.toNat ≤ 120 →
          exec (.byteReceived b true) s = .next { s with link := { s.link with rx := .collecting [b] } }))
  ∧ (∀ (s : Machine.State) (bs : List Byte) (rest : List (List Byte)), s.wires.arrived = bs :: rest →
      (arrivedCrcGood bs = false
        ∨ (u8 bs 1 ≠ 1 ∧ u8 bs 1 ≠ 2 ∧ u8 bs 1 ≠ 3)
        ∨ (u8 bs 1 = 1 ∧ u8 bs 0 ≠ 14)
        ∨ ((u8 bs 1 = 2 ∨ u8 bs 1 = 3) ∧ u8 bs 0 < 2)) →
      exec .frameDropped s = .next { s with wires := { s.wires with arrived := rest } }
      ∧ exec .strideFrame s = .next s ∧ exec .setupFrame s = .next s)

/-- STRIDE_FRAME ignored as a whole (R165, R41, R42): in CONFIG, in SAFE, and without a stop request while a reset is pending, the frame
is counted and answered by STRIDE-IGNORED with its reason, and changes nothing else.

STRIDE_FRAME taken (R165, R23, R24, R43, R68): the intent record, the hold-off and the age; the references where the frame has
them; and the request of the supervisor. The frame names no gait here. -/
def Obligations.StrideFrameIgnoredOrTaken : Prop :=
  (∀ (s : Machine.State) (bs payload : List Byte) (rest : List (List Byte)) (reason : IgnoreReason),
      s.wires.arrived = bs :: rest → judge bs = .stride payload →
      ((s.sup.op = .config ∧ reason = .config) ∨ (s.sup.op = .safe ∧ reason = .safe)
        ∨ (s.sup.op = .stopping ∧ s.sup.resetPending = true ∧ (u8 payload 7).testBit 0 = false ∧ u16 payload 0 ≠ 0
          ∧ reason = .resetPending)) →
      exec .strideFrame s = .next { s with
        wires := { s.wires with arrived := rest }
        engine := { s.engine with intentAge := 0, linkLossArmed := true }
        link := s.link.post (newAlert .strideIgnored .none (.reason reason) s.ring.tag 0) })
  ∧ (∀ (s : Machine.State) (bs p : List Byte) (rest : List (List Byte)),
      s.wires.arrived = bs :: rest → judge bs = .stride p → u8 p 8 = 255 →
      let stop : Bool := (u8 p 7).testBit 0 || u16 p 0 == 0
      (s.sup.op = .standing ∨ s.sup.op = .walking
        ∨ (s.sup.op = .stopping ∧ (s.sup.resetPending = false ∨ stop = true))) →
      let cap := if s.sup.modes.lf = .strut ∨ s.sup.modes.rf = .strut ∨ s.sup.modes.lh = .strut ∨ s.sup.modes.rh = .strut
        then s.engine.walk.strutCap else s.engine.walk.rateCeiling
      ∃ t, exec .strideFrame s = .next t
        ∧ t.engine = { s.engine with
            intent := { rateTarget := if stop then s.engine.intent.rateTarget
                          else clampN (u16 p 0) s.engine.walk.rateFloor cap
                        ampTarget := min (u16 p 2) 256, turn := clampI (s16 p 4) (-128) 127
                        direction := if u8 p 6 = 0 then .forward else .backward, stop := stop }
            intentAge := 0, linkLossArmed := true, holdOff := u8 p 13 }
        ∧ ((u8 p 7).testBit 1 = false → t.balance = s.balance ∧ t.link = s.link)
        ∧ ((u8 p 7).testBit 1 = true →
            t.balance = { s.balance with
              refPitch := clampI (s16 p 9) (-436) 436, refRoll := clampI (s16 p 11) (-436) 436, refSource := .planner
              band := bandFor (clampI (s16 p 9) (-436) 436) s.balance.t1 s.balance.t2 s.balance.t3, relevel := none })
        ∧ t.wires = { s.wires with
            arrived := rest
            walkRequests := s.wires.walkRequests
              + (if (s.sup.op = .standing ∨ s.sup.op = .stopping) ∧ stop = false then 1 else 0)
            stopRequests := s.wires.stopRequests + (if s.sup.op = .walking ∧ stop = true then 1 else 0) }
        ∧ t = { s with engine := t.engine, balance := t.balance, link := t.link, wires := t.wires })

/-- STRIDE_FRAME naming a gait (R33, R20): in WALKING and STOPPING a legal other entry becomes the pending gait and the current entry
removes it; in STANDING a legal other entry becomes current at once with every playing slot parked at touchdown; an entry that is
undefined, illegal or above 15 posts BAD-GAIT with its number and changes neither. -/
def Obligations.StrideFrameNamesGait : Prop :=
  ∀ (s : Machine.State) (bs p : List Byte) (rest : List (List Byte)),
    s.wires.arrived = bs :: rest → judge bs = .stride p → u8 p 8 ≠ 255 → (u8 p 7).testBit 1 = false →
    (s.sup.op = .standing ∨ s.sup.op = .walking ∨ (s.sup.op = .stopping ∧ s.sup.resetPending = false)) →
    let g := u8 p 8
    ∃ t, exec .strideFrame s = .next t
      ∧ (g ≠ s.engine.current → (16 ≤ g ∨ legal (s.gait g) s.sup.modes = false) →
          t.engine.current = s.engine.current ∧ t.engine.pendingGait = s.engine.pendingGait
          ∧ t.engine.slots = s.engine.slots
          ∧ t.link = s.link.post (newAlert .badGait .none .none s.ring.tag g))
      ∧ (g = s.engine.current →
          t.engine.current = g ∧ t.engine.slots = s.engine.slots ∧ t.link = s.link
          ∧ (s.sup.op ≠ .standing → t.engine.pendingGait = none)
          ∧ (s.sup.op = .standing → t.engine.pendingGait = s.engine.pendingGait))
      ∧ (g ≠ s.engine.current → g < 16 → legal (s.gait g) s.sup.modes = true →
          t.link = s.link
          ∧ (s.sup.op ≠ .standing →
              t.engine.pendingGait = some g ∧ t.engine.current = s.engine.current ∧ t.engine.slots = s.engine.slots)
          ∧ (s.sup.op = .standing →
              t.engine.current = g ∧ t.engine.pendingGait = s.engine.pendingGait
              ∧ ∀ l m mirror, slotMember (s.gait g) s.sup.modes l = some (m, mirror) →
                t.engine.slots.get l = { bank := m.bank, offset := m.offset, mirror := mirror
                                         phase := (s.header m.bank).touchdown, swing := false
                                         parked := some (s.header m.bank).touchdown }))
      ∧ t.sup = s.sup ∧ t.arbiter = s.arbiter ∧ t.unit = s.unit ∧ t.shaper = s.shaper ∧ t.ring = s.ring
      ∧ t.banks = s.banks ∧ t.gaits = s.gaits ∧ t.limits = s.limits ∧ t.balance = s.balance

/-- SETUP_FRAME (R166): a received setup or query frame joins the back of the inbox while it holds fewer than 4; else it is answered
FULL, with its tag and no data, where the reply queue has a free entry; else it is dropped.

SETUP_TAKE (R167): the idle processor takes the inbox's head when the reply queue has a free entry, and reserves it; else nothing
happens. -/
def Obligations.SetupFrameJoinsInboxAndIsTaken : Prop :=
  (∀ (s : Machine.State) (bs : List Byte) (rest : List (List Byte)) (f : CmdFrame),
      s.wires.arrived = bs :: rest → judge bs = .command f →
      let s0 : Machine.State := { s with wires := { s.wires with arrived := rest } }
      (s.link.inbox.length < 4 →
        exec .setupFrame s = .next { s0 with link := { s.link with inbox := s.link.inbox ++ [f] } })
      ∧ (4 ≤ s.link.inbox.length → s.link.replies.length + s.link.reserved.toNat < 8 →
        exec .setupFrame s = .next { s0 with link := { s.link with
          replies := s.link.replies ++ [{ command := f.payload.getD 0 0, tag := f.payload.getD 1 0, code := .full, data := [] }] } })
      ∧ (4 ≤ s.link.inbox.length → 8 ≤ s.link.replies.length + s.link.reserved.toNat →
        exec .setupFrame s = .next s0))
  ∧ (∀ s : Machine.State,
      (∀ f rest, s.link.busy = none → s.link.inbox = f :: rest → s.link.replies.length + s.link.reserved.toNat < 8 →
        exec .setupTake s = .next { s with link := { s.link with inbox := rest, reserved := true, busy := some f } })
      ∧ (s.link.busy.isSome = true ∨ s.link.inbox = [] ∨ 8 ≤ s.link.replies.length + s.link.reserved.toNat →
        exec .setupTake s = .next s))

/-- STATUS_IMAGE (R171): while N is above 0 the count rises, and reaching N fills an image of the state as it stands and becomes 0,
replacing any image that waits; with N at 0 nothing is filled and the count stays.

TRANSMIT_START and FRAME_SENT (R172, R161, R170): the idle transmitter takes the first reply, else the first alert, else the image; a
status frame sent in full clears the reset-done flag and the alerts-dropped mark it carried set, unless they have been set again
since the image was filled. That the model tells this by counting the settings is its own means (log 23).

The bytes of the frame sent (R189 to R192): a reply, an alert and a status image in their layouts and codes, in the envelope of the
kinds 0x81, 0x82 and 0x83. The detail byte of an alert that carries no detail is free (log 7). -/
def Obligations.StatusImagesAndTransmission : Prop :=
  (∀ s : Machine.State, 0 < s.wires.statusReturns →
      let s0 : Machine.State := { s with wires := { s.wires with statusReturns := s.wires.statusReturns - 1 } }
      (s.link.interval = 0 → exec .statusImage s = .next s0)
      ∧ (s.link.statusCount + 1 < s.link.interval →
        exec .statusImage s = .next { s0 with link := { s.link with statusCount := s.link.statusCount + 1 } })
      ∧ (s.link.statusCount + 1 = s.link.interval →
        ∃ i, exec .statusImage s = .next { s0 with link := { s.link with statusCount := 0, statusBuf := some i } }
          ∧ i.op = s.sup.op ∧ i.master = s.engine.master ∧ i.rate = s.engine.rate ∧ i.amp = s.engine.amp
          ∧ i.current = s.engine.current ∧ i.pendingGait = s.engine.pendingGait
          ∧ i.heldPitch = s.balance.heldPitch ∧ i.heldRoll = s.balance.heldRoll ∧ i.blind = s.balance.blind
          ∧ i.level = s.arbiter.level ∧ i.topLine = (s.arbiter.stack.head?.map Entry.line) ∧ i.pending = s.arbiter.pending
          ∧ i.holdOff = s.engine.holdOff ∧ i.intentAge = s.engine.intentAge
          ∧ i.alertsDropped = s.link.alertsDropped ∧ i.resetDone = s.sup.resetDone
          ∧ ∀ l, (i.legs.get l).mode = s.sup.modes.get l ∧ (i.legs.get l).phase = (s.engine.slots.get l).phase
              ∧ (i.legs.get l).contact = (s.monitor.legs.get l).contact
              ∧ (i.legs.get l).prev = (s.shaper.get l).prev
              ∧ ((i.legs.get l).degraded = true ↔ s.monitor.settings.maxAge < (s.monitor.legs.get l).age)
              ∧ (i.legs.get l).motion = (if (s.engine.slots.get l).parked.isSome = true then .parked
                  else if (s.engine.slots.get l).swing = true then .swing else .stance)))
  ∧ (∀ s : Machine.State,
      (s.link.sending = none →
        (∀ r rest, s.link.replies = r :: rest →
          exec .transmitStart s = .next { s with link := { s.link with replies := rest, sending := some (.reply r) } })
        ∧ (∀ a rest, s.link.replies = [] → s.link.alerts = a :: rest →
          exec .transmitStart s = .next { s with link := { s.link with alerts := rest, sending := some (.alert a) } })
        ∧ (∀ i, s.link.replies = [] → s.link.alerts = [] → s.link.statusBuf = some i →
          exec .transmitStart s = .next { s with link := { s.link with statusBuf := none, sending := some (.status i) } })
        ∧ (s.link.replies = [] → s.link.alerts = [] → s.link.statusBuf = none → exec .transmitStart s = .next s))
      ∧ (s.link.sending.isSome = true → exec .transmitStart s = .next s)
      ∧ (∀ r, s.link.sending = some (.reply r) → exec .frameSent s = .next { s with link := { s.link with sending := none } })
      ∧ (∀ a, s.link.sending = some (.alert a) → exec .frameSent s = .next { s with link := { s.link with sending := none } })
      ∧ (∀ i, s.link.sending = some (.status i) →
        ∃ t, exec .frameSent s = .next t
          ∧ t = { s with
              sup := { s.sup with resetDone := t.sup.resetDone }
              link := { s.link with sending := none, alertsDropped := t.link.alertsDropped } }
          ∧ (i.resetDone = true → i.resetEpoch = s.sup.resetEpoch → t.sup.resetDone = false)
          ∧ (i.resetDone = false ∨ i.resetEpoch ≠ s.sup.resetEpoch → t.sup.resetDone = s.sup.resetDone)
          ∧ (i.alertsDropped = true → i.dropEpoch = s.link.dropEpoch → t.link.alertsDropped = false)
          ∧ (i.alertsDropped = false ∨ i.dropEpoch ≠ s.link.dropEpoch → t.link.alertsDropped = s.link.alertsDropped)))
  ∧ (∀ r : Reply, txBytes (.reply r) = envelope 0x81 ([r.command, r.tag, (match r.code with
      | .done => 0 | .deferred => 1 | .state => 2 | .inUse => 3 | .range => 4 | .order => 5 | .notReady => 6 | .full => 7)]
      ++ r.data))
  ∧ (∀ a : AlertEntry, txBytes (.alert a) = envelope 0x82 ([
      (match a.kind with
        | .detected => 1 | .reflexTaken => 2 | .reflexDone => 3 | .hole => 4 | .legFault => 5 | .stateChange => 6
        | .bodyBlind => 7 | .bodyRestored => 8 | .relevelAborted => 9 | .ringRestored => 10 | .resetDone => 11
        | .badGait => 12 | .strideIgnored => 13 | .linkReset => 14),
      (match a.key with
        | .none => 255 | .line n => BitVec.ofNat 8 n | .leg .lf => 0 | .leg .rf => 1 | .leg .lh => 2 | .leg .rh => 3),
      (match a.detail with
        | .none => Config.absentDetail
        | .disposition .ignored => 0 | .disposition .coalesced => 1 | .disposition .disabled => 2
        | .disposition .held => 3 | .disposition .pended => 4
        | .outcome .complete => 0 | .outcome .failed => 1 | .outcome .shed => 2 | .outcome .abandoned => 3
        | .line n => BitVec.ofNat 8 n
        | .mode .active => 0 | .mode .stowed => 1 | .mode .strut => 2 | .mode .faulted => 3
        | .state op p => BitVec.ofNat 8 (opCode op + 16 * (match p with | none => 0 | some .crouch => 1 | some .freeze => 2))
        | .reason .config => 0 | .reason .safe => 1 | .reason .resetPending => 2),
      a.tag] ++ be32s a.value ++ [BitVec.ofNat 8 a.repeats]))
  ∧ (∀ i : StatusImage,
      let leg (x : LegImage) : List Byte :=
        ([(match x.mode with | .active => 0 | .stowed => 1 | .strut => 2 | .faulted => 3)] : List Byte) ++ be16 x.phase.toNat
        ++ [(match x.motion with | .stance => 0 | .swing => 1 | .parked => 2),
            (match x.contact with | .unknown => 0 | .loaded => 1 | .unloaded => 2), bit x.degraded]
        ++ be16s x.prev.ab ++ be16s x.prev.hf ++ be16s x.prev.kn
      txBytes (.status i) = envelope 0x83 (
        ([(match i.op with | .config => 0 | .standing => 1 | .walking => 2 | .stopping => 3 | .safe => 4)] : List Byte)
        ++ be16 i.master.toNat ++ be16 i.rate ++ be16 i.amp
        ++ [BitVec.ofNat 8 i.current, (match i.pendingGait with | some g => BitVec.ofNat 8 g | none => 255)]
        ++ leg i.legs.lf ++ leg i.legs.rf ++ leg i.legs.lh ++ leg i.legs.rh
        ++ be16s i.heldPitch ++ be16s i.heldRoll
        ++ [bit i.blind, BitVec.ofNat 8 i.level, (match i.topLine with | some n => BitVec.ofNat 8 n | none => 255)]
        ++ be32s i.pending.toNat ++ [BitVec.ofNat 8 i.holdOff] ++ be16 i.intentAge
        ++ [BitVec.ofNat 8 (i.alertsDropped.toNat + 2 * i.resetDone.toNat)]))

/-- LINK_RESET (R173): the reassembly, the inbox, the replies with their reservation, the alerts and the image are emptied, LINK-RESET
stands alone in the alert queue, and no block outside the link changes. That a frame arrived and not yet judged goes with the
reassembly is the model's choice (log 22). -/
def Obligations.LinkResetEmptiesTheLink : Prop :=
  ∀ s : Machine.State,
    exec .linkReset s = .next { s with
      link := { s.link with
        rx := .hunting, inbox := [], replies := [], reserved := false, statusBuf := none
        alerts := [newAlert .linkReset .none .none s.ring.tag 0] }
      wires := { s.wires with arrived := [] } }

/-- R169 and R170: a posted alert merges into the queued alert of its kind and key, in its place, with its own detail, tag and value and
the repeat count one higher (at most 255); else it joins the back while the queue holds fewer than 16; else it is dropped and the
mark is set. -/
def Obligations.PostedAlertMergesQueuesOrDrops : Prop :=
  ∀ (k : Link) (a : AlertEntry),
    (∀ before old after, k.alerts = before ++ old :: after → old.kind = a.kind → old.key = a.key →
      (∀ x ∈ before ++ after, ¬(x.kind = a.kind ∧ x.key = a.key)) →
      k.post a = { k with alerts := before ++ { a with repeats := min (old.repeats + 1) 255 } :: after })
    ∧ ((∀ x ∈ k.alerts, ¬(x.kind = a.kind ∧ x.key = a.key)) → k.alerts.length < 16 →
      k.post a = { k with alerts := k.alerts ++ [a] })
    ∧ ((∀ x ∈ k.alerts, ¬(x.kind = a.kind ∧ x.key = a.key)) → 16 ≤ k.alerts.length →
      (k.post a).alerts = k.alerts ∧ (k.post a).alertsDropped = true)

/-! ## Setup commands and queries -/

/-- OPEN_BANK and WRITE_PART (R5, R6): their checks in order; opening makes the bank FILLING and empty, whatever it held; a part
written replaces that part whole, and the part that completes the four makes the bank READY in the same step. That a scale mask
with a bit beyond its three is judged with the header's content is DEDUCED (log 12). -/
def Obligations.BankIsOpenedAndFilled : Prop :=
  ∀ (s : Machine.State) (f : CmdFrame),
    let b := u8 f.args 0
    let part := u8 f.args 1
    let answered (content : Bank) (t : Machine.State) : Prop :=
      t.bank b = content ∧ (∀ c, c ≠ b → t.bank c = s.bank c)
      ∧ t = { s with banks := t.banks, link := (s.reply f .done []).link }
    (s.busyWith .openBank f →
      (63 < b ∨ b ≤ 1 → exec .openBank s = .next (s.refuse f .range))
      ∧ (2 ≤ b → b ≤ 63 → s.inUse b = true → exec .openBank s = .next (s.refuse f .inUse))
      ∧ (2 ≤ b → b ≤ 63 → s.inUse b = false →
        ∃ t, exec .openBank s = .next t ∧ answered (.filling none (.all none)) t))
    ∧ (s.busyWith .writePart f →
      let header := headerArg f.args
      let contentGood : Prop :=
        (part = 0 → ∃ h, header = some h ∧ h.stanceStiff ≤ 15 ∧ h.swingStiff ≤ 15
          ∧ (h.liftoff = h.touchdown ∨ fwd h.liftoff h.refresh < fwd h.liftoff h.touchdown))
        ∧ (part ≠ 0 → ∀ x ∈ knotsArg f.args, -4095 ≤ x ∧ x ≤ 4095)
      (63 < b ∨ b ≤ 1 ∨ 3 < part → exec .writePart s = .next (s.refuse f .range))
      ∧ (2 ≤ b → b ≤ 63 → part ≤ 3 →
        ((s.bank b = .empty ∨ ∃ p, s.bank b = .ready p) → exec .writePart s = .next (s.refuse f .order))
        ∧ ∀ h k, s.bank b = .filling h k →
          (¬contentGood → exec .writePart s = .next (s.refuse f .range))
          ∧ (contentGood →
            let h' := if part = 0 then header else h
            let ab := if part = 1 then some (knotsArg f.args) else k.ab
            let hf := if part = 2 then some (knotsArg f.args) else k.hf
            let kn := if part = 3 then some (knotsArg f.args) else k.kn
            (∀ x y z w, h' = some x → ab = some y → hf = some z → kn = some w →
              ∃ t, exec .writePart s = .next t ∧ answered (.ready { header := x, knots := ⟨y, z, w⟩ }) t)
            ∧ (h' = none ∨ ab = none ∨ hf = none ∨ kn = none →
              ∃ t, exec .writePart s = .next t ∧ answered (.filling h' ⟨ab, hf, kn⟩) t))))

/-- DEFINE_GAIT and UNDEFINE_GAIT (R12, R13): their checks in order; an accepted definition replaces the entry's kind and members
whole, an accepted UNDEFINE-GAIT leaves none. No other entry, slot or selection changes. -/
def Obligations.GaitEntryIsDefined : Prop :=
  ∀ (s : Machine.State) (f : CmdFrame),
    let n := u8 f.args 0
    let kind := u8 f.args 1
    let count := if kind = 0 then 4 else 3
    let bankOf (i : Nat) : Nat := u8 f.args (2 + 3 * i)
    let held : Prop := s.engine.current = n ∨ s.engine.pendingGait = some n
    let answered (entry : Option Gait) (t : Machine.State) : Prop :=
      t.gait n = entry ∧ (∀ m, m ≠ n → t.gait m = s.gait m)
      ∧ t = { s with gaits := t.gaits, link := (s.reply f .done []).link }
    (s.busyWith .defineGait f →
      (n = 0 ∨ 15 < n ∨ 2 < kind ∨ (∃ i, i < count ∧ 63 < bankOf i) → exec .defineGait s = .next (s.refuse f .range))
      ∧ (1 ≤ n → n ≤ 15 → kind ≤ 2 → (∀ i, i < count → bankOf i ≤ 63) →
        (held → exec .defineGait s = .next (s.refuse f .inUse))
        ∧ (¬held → (∃ i, i < count ∧ (s.bank (bankOf i)).isReady = false) →
          exec .defineGait s = .next (s.refuse f .notReady))
        ∧ (¬held → (∀ i, i < count → (s.bank (bankOf i)).isReady = true) →
          let m (i : Nat) : Member := { bank := bankOf i, offset := phaseAt f.args (3 + 3 * i) }
          ∃ t, exec .defineGait s = .next t
            ∧ answered (some (if kind = 0 then .quad ⟨m 0, m 1, m 2, m 3⟩
                else if kind = 1 then .triF (m 0) (m 1) (m 2) else .triH (m 0) (m 1) (m 2))) t)))
    ∧ (s.busyWith .undefineGait f →
      (n = 0 ∨ 15 < n → exec .undefineGait s = .next (s.refuse f .range))
      ∧ (1 ≤ n → n ≤ 15 → held → exec .undefineGait s = .next (s.refuse f .inUse))
      ∧ (1 ≤ n → n ≤ 15 → ¬held → ∃ t, exec .undefineGait s = .next t ∧ answered none t))

/-- SET_BANDS, SET_CONTACT, SET_TILT, SET_WALK and RELEVEL (R73, R61, R62, R79, R178, R69): STATE outside the states that accept them,
RANGE outside their ranges, and what acceptance replaces. SET-CONTACT raises BASELINE-STALE for each leg that it makes degraded
and whose stale arm is armed, in leg order, and re-arms that of a leg that stops being degraded. -/
def Obligations.SettingsOfRestStates : Prop :=
  ∀ (s : Machine.State) (f : CmdFrame),
    let rest : Prop := s.sup.op = .config ∨ s.sup.op = .standing
    (s.busyWith .setBands f →
      let t1 := u16 f.args 0
      let t2 := u16 f.args 2
      let t3 := u16 f.args 4
      let fits : Prop := 1 ≤ t1 ∧ t1 < t2 ∧ t2 < t3 ∧ t3 ≤ 436
      (¬rest → exec .setBands s = .next (s.refuse f .state))
      ∧ (rest → ¬fits → exec .setBands s = .next (s.refuse f .range))
      ∧ (rest → fits → exec .setBands s = .next (({ s with balance := { s.balance with
          t1 := t1, t2 := t2, t3 := t3, band := bandFor s.balance.refPitch t1 t2 t3 } } : Machine.State).reply f .done [])))
    ∧ (s.busyWith .setContact f →
      let c := contactArg f.args
      let fits : Prop := (2 ≤ c.onThreshold ∧ c.onThreshold ≤ 2000) ∧ (1 ≤ c.offThreshold ∧ c.offThreshold < c.onThreshold)
        ∧ (1 ≤ c.onCount ∧ c.onCount ≤ 8) ∧ (1 ≤ c.offCount ∧ c.offCount ≤ 8) ∧ c.earlyMargin ≤ 32768
        ∧ c.lateMargin ≤ 32768 ∧ c.unloadMargin ≤ 32768 ∧ (20 ≤ c.slipThreshold ∧ c.slipThreshold ≤ 1000)
        ∧ (1 ≤ c.slipCount ∧ c.slipCount ≤ 15) ∧ (1 ≤ c.torqueCount ∧ c.torqueCount ≤ 15)
        ∧ (1000 ≤ c.maxAge ∧ c.maxAge ≤ 65000)
      let was (l : LegId) : Prop := s.monitor.settings.maxAge < (s.monitor.legs.get l).age
      let now (l : LegId) : Prop := c.maxAge < (s.monitor.legs.get l).age
      (¬rest → exec .setContact s = .next (s.refuse f .state))
      ∧ (rest → ¬fits → exec .setContact s = .next (s.refuse f .range))
      ∧ (rest → fits →
        ∃ t, exec .setContact s = .next t ∧ t.monitor.settings = c
          ∧ (∀ l, t.monitor.legs.get l = { s.monitor.legs.get l with staleArm := (t.monitor.legs.get l).staleArm }
            ∧ (¬was l → now l → (t.monitor.legs.get l).staleArm = false)
            ∧ (was l → ¬now l → (t.monitor.legs.get l).staleArm = true)
            ∧ ((was l ↔ now l) → (t.monitor.legs.get l).staleArm = (s.monitor.legs.get l).staleArm))
          ∧ t.wires.raises = s.wires.raises
            ++ ((LegId.all.filter fun l => (s.monitor.legs.get l).staleArm
                  && !decide (s.monitor.settings.maxAge < (s.monitor.legs.get l).age)
                  && decide (c.maxAge < (s.monitor.legs.get l).age)).map fun l =>
                { line := 28 + l.num, value := (s.monitor.legs.get l).age, tag := s.ring.tag })
          ∧ t = { s with
              monitor := t.monitor, wires := { s.wires with raises := t.wires.raises }
              link := (s.reply f .done []).link }))
    ∧ (s.busyWith .setTilt f →
      let w := u16 f.args 0
      let l := u16 f.args 2
      let fits : Prop := 50 ≤ w ∧ w ≤ 1000 ∧ 200 ≤ l ∧ l ≤ 1500 ∧ w ≤ l
      (¬rest → exec .setTilt s = .next (s.refuse f .state))
      ∧ (rest → ¬fits → exec .setTilt s = .next (s.refuse f .range))
      ∧ (rest → fits → exec .setTilt s = .next (({ s with balance := { s.balance with
          tiltWarning := w, fallLimit := l } } : Machine.State).reply f .done [])))
    ∧ (s.busyWith .setWalk f →
      let w := walkArg f.args
      let fits : Prop := (64 ≤ w.rateCeiling ∧ w.rateCeiling ≤ 2048) ∧ (1 ≤ w.rateFloor ∧ w.rateFloor ≤ w.rateCeiling)
        ∧ (w.rateFloor ≤ w.strutCap ∧ w.strutCap ≤ w.rateCeiling) ∧ (1 ≤ w.rateStep ∧ w.rateStep ≤ 256)
        ∧ (1 ≤ w.ampStep ∧ w.ampStep ≤ 64) ∧ (10 ≤ w.intentTimeout ∧ w.intentTimeout ≤ 1000)
      (¬rest → exec .setWalk s = .next (s.refuse f .state))
      ∧ (rest → ¬fits → exec .setWalk s = .next (s.refuse f .range))
      ∧ (rest → fits → exec .setWalk s = .next (({ s with engine := { s.engine with
          walk := w
          intent := { s.engine.intent with
            rateTarget := clampN s.engine.intent.rateTarget w.rateFloor (rateCap w s.sup.modes) } } }
          : Machine.State).reply f .done [])))
    ∧ (s.busyWith .relevel f →
      (s.sup.op ≠ .standing → exec .relevel s = .next (s.refuse f .state))
      ∧ (s.sup.op = .standing → exec .relevel s = .next (({ s with balance := { s.balance with
          relevel := some { taken := 0, pitchSum := 0, rollSum := 0 } } } : Machine.State).reply f .done [])))

/-- SET_LIMITS, SET_LEG_MAP and SET_RING (R177, R135, R145): STATE outside CONFIG, RANGE outside their ranges and orders, and what
acceptance replaces. -/
def Obligations.SettingsOfConfig : Prop :=
  ∀ (s : Machine.State) (f : CmdFrame),
    (s.busyWith .setLimits f →
      let lims := limitsArg f.args
      let fits : Prop := u8 f.args 0 ≤ 3 ∧ ∀ j, let x := lims.get j
        (-3141 ≤ x.min ∧ x.min ≤ 3141) ∧ (-3141 ≤ x.max ∧ x.max ≤ 3141) ∧ (x.min ≤ x.neutral ∧ x.neutral ≤ x.max)
        ∧ (x.min ≤ x.stow ∧ x.stow ≤ x.max) ∧ (1 ≤ x.maxStep ∧ x.maxStep ≤ 200) ∧ (1 ≤ x.torque ∧ x.torque ≤ 3000)
      (s.sup.op ≠ .config → exec .setLimits s = .next (s.refuse f .state))
      ∧ (s.sup.op = .config → ¬fits → exec .setLimits s = .next (s.refuse f .range))
      ∧ ∀ l : LegId, s.sup.op = .config → fits → u8 f.args 0 = l.num →
        exec .setLimits s = .next (({ s with limits := s.limits.set l (some lims) } : Machine.State).reply f .done []))
    ∧ (s.busyWith .setLegMap f →
      let p (n : Nat) : Nat := u8 f.args n
      let fits : Prop := (∀ n, n < 5 → 1 ≤ p n ∧ p n ≤ 5) ∧ ∀ n m, n < 5 → m < 5 → p n = p m → n = m
      (s.sup.op ≠ .config → exec .setLegMap s = .next (s.refuse f .state))
      ∧ (s.sup.op = .config → ¬fits → exec .setLegMap s = .next (s.refuse f .range))
      ∧ (s.sup.op = .config → fits → exec .setLegMap s = .next (({ s with ring := { s.ring with
          legMap := ⟨⟨p 0, p 1, p 2, p 3⟩, p 4⟩ } } : Machine.State).reply f .done [])))
    ∧ (s.busyWith .setRing f →
      let p (n : Nat) : Nat := u8 f.args n
      let fits : Prop := (10 ≤ p 0 ∧ p 0 ≤ 80) ∧ (1 ≤ p 1 ∧ p 1 ≤ 15) ∧ (1 ≤ p 2 ∧ p 2 ≤ 15)
      (s.sup.op ≠ .config → exec .setRing s = .next (s.refuse f .state))
      ∧ (s.sup.op = .config → ¬fits → exec .setRing s = .next (s.refuse f .range))
      ∧ (s.sup.op = .config → fits → exec .setRing s = .next (({ s with ring := { s.ring with
          period := p 0, lossLimit := p 1, staleLimit := p 2, staleCount := ⟨⟨0, 0, 0, 0⟩, 0⟩, lossCount := 0 } }
          : Machine.State).reply f .done [])))

/-- SET_GAINS, SET_STATUS, SET_REFLEX, SET_ARBITER and CLEAR_PENDING (R74, R179, R83, R99, R98), accepted in every operating state: RANGE
outside their ranges, and what acceptance replaces; a source that SET-REFLEX disables loses its pending lines. SET-STATUS leaves the
sweep returns that wait to be counted (log 42). After SET-REFLEX and
SET-ARBITER the arbiter re-examines, so that a waiting line that now passes is taken (`Reexamined`; its RING-LOSS rests on log 17 and
its finished mark on log 19, the model's own). -/
def Obligations.SettingsOfEveryState : Prop :=
  ∀ (s : Machine.State) (f : CmdFrame),
    (s.busyWith .setGains f →
      let g : PerJoint Gains := ⟨gainsArg f.args 0, gainsArg f.args 1, gainsArg f.args 2⟩
      let fits : Prop := u8 f.args 0 ≤ 3 ∧ ∀ j, let x := g.get j
        (-4096 ≤ x.kpPitch ∧ x.kpPitch ≤ 4095) ∧ (-4096 ≤ x.kdPitch ∧ x.kdPitch ≤ 4095)
        ∧ (-4096 ≤ x.kpRoll ∧ x.kpRoll ≤ 4095) ∧ (-4096 ≤ x.kdRoll ∧ x.kdRoll ≤ 4095) ∧ x.authority ≤ 1023
      (¬fits → exec .setGains s = .next (s.refuse f .range))
      ∧ ∀ n : Fin 4, fits → u8 f.args 0 = n.val →
        exec .setGains s = .next (({ s with balance := { s.balance with bands := s.balance.bands.set n g } }
          : Machine.State).reply f .done []))
    ∧ (s.busyWith .setStatus f →
      (255 < u16 f.args 0 → exec .setStatus s = .next (s.refuse f .range))
      ∧ (u16 f.args 0 ≤ 255 →
        exec .setStatus s = .next (({ s with link := { s.link with interval := u16 f.args 0, statusCount := 0 } }
          : Machine.State).reply f .done [])))
    ∧ (s.busyWith .setArbiter f →
      (1 < u8 f.args 0 → exec .setArbiter s = .next (s.refuse f .range))
      ∧ (u8 f.args 0 ≤ 1 →
        Reexamined (({ s with arbiter := { s.arbiter with nesting := u8 f.args 0 == 1 } } : Machine.State).reply f .done [])
          (exec .setArbiter s)))
    ∧ (s.busyWith .setReflex f → u8 f.args 0 = 8 →
      (u16 f.args 1 < 20 ∨ 4095 < u16 f.args 1 → exec .setReflex s = .next (s.refuse f .range))
      ∧ (20 ≤ u16 f.args 1 → u16 f.args 1 ≤ 4095 →
        Reexamined (({ s with arbiter := { s.arbiter with fallCrouch := u16 f.args 1 } } : Machine.State).reply f .done [])
          (exec .setReflex s)))
    ∧ (s.busyWith .setReflex f → 8 < u8 f.args 0 → exec .setReflex s = .next (s.refuse f .range))
    ∧ (∀ src, s.busyWith .setReflex f → sourceArg (u8 f.args 0) = some src →
      let robotWide : Prop := src = .tilt ∨ src = .linkLoss
      let fits : Prop := u8 f.args 1 ≤ 1 ∧ (1 ≤ u8 f.args 2 ∧ u8 f.args 2 ≤ 7) ∧ u8 f.args 3 ≤ 4
        ∧ (1 ≤ u16 f.args 4 ∧ u16 f.args 4 ≤ 4095) ∧ u16 f.args 6 ≤ 1023
        ∧ ¬(robotWide ∧ (u8 f.args 3 = 1 ∨ u8 f.args 3 = 2))
      (¬fits → exec .setReflex s = .next (s.refuse f .range))
      ∧ ∀ act, fits → actionArg (u8 f.args 3) = some act →
        ∃ p : BitVec 32,
          (∀ n, p.getLsbD n = (s.arbiter.pending.getLsbD n && (u8 f.args 1 == 1 || decide (lineSource n ≠ src))))
          ∧ Reexamined (({ s with arbiter := { s.arbiter with
              pending := p
              sources := s.arbiter.sources.set src
                { enabled := u8 f.args 1 == 1, priority := u8 f.args 2, action := act, duration := u16 f.args 4
                  parameter := u16 f.args 6 } } } : Machine.State).reply f .done [])
            (exec .setReflex s))
    ∧ (s.busyWith .clearPending f →
      ∃ p : BitVec 32, (∀ n, p.getLsbD n = (s.arbiter.pending.getLsbD n && decide (n ≤ 5)))
        ∧ exec .clearPending s = .next (({ s with arbiter := { s.arbiter with pending := p } }
            : Machine.State).reply f .done []))

/-- The queries (R181, R11, R13, R182 to R184, R80, R103, R146): RANGE for an index or a table name outside its range, ORDER for a part
the bank does not hold, and else DONE with the data, in the widths of R189 and the codes of R192; nothing changes but the link's
processor and reply queue. The widths of READ-LEG's baseline and age and of the status interval are log 10, its motion's code log 9,
the order of the sources in the table REFLEX log 45, and the parked phase's bytes of a leg that is not parked are free (log 8). -/
def Obligations.QueriesReportTheState : Prop :=
  ∀ (s : Machine.State) (f : CmdFrame),
    let a := u8 f.args 0
    let b := u8 f.args 1
    (s.busyWith .readBank f →
      (63 < a → exec .readBank s = .next (s.refuse f .range))
      ∧ (a ≤ 63 →
        (s.bank a = .empty → exec .readBank s = .next (s.reply f .done [0, 0]))
        ∧ (∀ h k, s.bank a = .filling h k → exec .readBank s = .next (s.reply f .done [1,
            BitVec.ofNat 8 (h.isSome.toNat + 2 * k.ab.isSome.toNat + 4 * k.hf.isSome.toNat + 8 * k.kn.isSome.toNat)]))
        ∧ (∀ p, s.bank a = .ready p → exec .readBank s = .next (s.reply f .done [2, 15]))))
    ∧ (s.busyWith .readPart f →
      (63 < a ∨ 3 < b → exec .readPart s = .next (s.refuse f .range))
      ∧ (a ≤ 63 → b ≤ 3 →
        (s.bank a = .empty → exec .readPart s = .next (s.refuse f .order))
        ∧ (∀ p, s.bank a = .ready p →
          (b = 0 → exec .readPart s = .next (s.reply f .done (headerData p.header)))
          ∧ ∀ j : JointId, b = (match j with | .ab => 1 | .hf => 2 | .kn => 3) →
            exec .readPart s = .next (s.reply f .done (knotsData (p.knots.get j))))
        ∧ ∀ h k, s.bank a = .filling h k →
          (b = 0 → h = none → exec .readPart s = .next (s.refuse f .order))
          ∧ (∀ x, b = 0 → h = some x → exec .readPart s = .next (s.reply f .done (headerData x)))
          ∧ ∀ j : JointId, b = (match j with | .ab => 1 | .hf => 2 | .kn => 3) →
            (k.get j = none → exec .readPart s = .next (s.refuse f .order))
            ∧ ∀ x, k.get j = some x → exec .readPart s = .next (s.reply f .done (knotsData x))))
    ∧ (s.busyWith .readGait f →
      (15 < a → exec .readGait s = .next (s.refuse f .range))
      ∧ (a ≤ 15 → s.gait a = none → exec .readGait s = .next (s.reply f .done [0]))
      ∧ ∀ g, a ≤ 15 → s.gait a = some g → exec .readGait s = .next (s.reply f .done
          (1 :: (match g with | .quad _ => 0 | .triF .. => 1 | .triH .. => 2) :: g.members.flatMap memberData)))
    ∧ (s.busyWith .readTable f →
      (7 < a ∨ (a = 1 ∧ 3 < b) ∨ (a = 4 ∧ 3 < b) → exec .readTable s = .next (s.refuse f .range))
      ∧ (a = 0 → exec .readTable s = .next (s.reply f .done (walkData s.engine.walk)))
      ∧ (∀ l : LegId, a = 1 → b = l.num → exec .readTable s = .next (s.reply f .done (limitsData (s.limits.get l))))
      ∧ (a = 2 → exec .readTable s = .next (s.reply f .done (contactData s.monitor.settings)))
      ∧ (a = 3 → let x := s.balance
          exec .readTable s = .next (s.reply f .done (
            [bit (x.refSource == .captured)] ++ be16s x.refPitch ++ be16s x.refRoll
            ++ [BitVec.ofNat 8 x.band.val, bit x.relevel.isSome] ++ be16 x.t1 ++ be16 x.t2 ++ be16 x.t3
            ++ be16 x.tiltWarning ++ be16 x.fallLimit)))
      ∧ (∀ n : Fin 4, a = 4 → b = n.val → exec .readTable s = .next (s.reply f .done (bandData (s.balance.bands.get n))))
      ∧ (a = 5 →
          let x := s.arbiter.sources
          let source (c : SourceSettings) : List Byte :=
            [bit c.enabled, BitVec.ofNat 8 c.priority, (match c.action with
              | .hold => 0 | .retract => 1 | .plant => 2 | .stop => 3 | .note => 4 | .crouch => 0 | .none => 0)]
            ++ be16 c.duration ++ be16 c.parameter
          exec .readTable s = .next (s.reply f .done (
            source x.tilt ++ source x.linkLoss ++ source x.earlyContact ++ source x.missedStep ++ source x.unload
            ++ source x.slip ++ source x.overtorque ++ source x.baselineStale
            ++ be16 s.arbiter.fallCrouch ++ [bit s.arbiter.nesting])))
      ∧ (a = 6 →
          let x := s.ring
          let m := x.legMap
          let k := x.staleCount
          exec .readTable s = .next (s.reply f .done (
            [x.period, x.lossLimit, x.staleLimit, m.legs.lf, m.legs.rf, m.legs.lh, m.legs.rh, m.body].map (BitVec.ofNat 8)
            ++ [if x.up = true then 0 else 1, x.tag]
            ++ [k.legs.lf, k.legs.rf, k.legs.lh, k.legs.rh, k.body, x.lossCount, x.restoration].map (BitVec.ofNat 8))))
      ∧ (a = 7 → exec .readTable s = .next (s.reply f .done (be16 s.link.interval))))
    ∧ (s.busyWith .readLeg f →
      (3 < a → exec .readLeg s = .next (s.refuse f .range))
      ∧ ∀ l : LegId, a = l.num →
        let sl := s.engine.slots.get l
        let c := s.monitor.legs.get l
        let h := s.shaper.get l
        let data : List Byte :=
          [(match s.sup.modes.get l with | .active => 0 | .stowed => 1 | .strut => 2 | .faulted => 3),
            bit (s.limits.get l).isSome, BitVec.ofNat 8 sl.bank] ++ be16 sl.offset.toNat ++ [bit sl.mirror]
          ++ be16 sl.phase.toNat ++ [if sl.parked.isSome = true then 2 else if sl.swing = true then 1 else 0]
          ++ be16 (sl.parked.getD Config.unparkedPhase).toNat
          ++ [(match c.contact with | .unknown => 0 | .loaded => 1 | .unloaded => 2),
              bit (decide (s.monitor.settings.maxAge < c.age))] ++ be16 c.baseline ++ be16 c.age
          ++ be16s h.prev.ab ++ be16s h.prev.hf ++ be16s h.prev.kn ++ [bit h.prevValid]
          ++ be16s h.measured.ab ++ be16s h.measured.hf ++ be16s h.measured.kn ++ [bit (s.ring.lastFresh.get l)]
        exec .readLeg s = .next (s.reply f .done data) ∧ data.length = 31)
    ∧ (s.busyWith .identify f → exec .identify s = .next (s.reply f .done [0x01, 0x9C, 1, 4, 64, 16]))

/-- R167, R173, R174 and R175: the completion of the frame in progress makes the processor idle and answers it once, in place of its
reservation, with its code and tag echoed; with the reservation discarded by a link reset there is no reply. A frame that is not
well formed is answered RANGE. A refused command changes nothing else, and a query never does. -/
def Obligations.EveryFrameIsAnsweredOnce : Prop :=
  ∀ (s : Machine.State) (f : CmdFrame), s.link.busy = some f →
    let answer (code : ReplyCode) (data : List Byte) : List Reply :=
      if s.link.reserved = true then
        s.link.replies ++ [{ command := f.payload.getD 0 0, tag := f.payload.getD 1 0, code := code, data := data }]
      else s.link.replies
    (readCommand f = none →
      exec .notWellFormed s = .next { s with link := { s.link with
        busy := none, reserved := false, replies := answer .range [] } })
    ∧ ∀ c, readCommand f = some c →
      ∃ t code data, exec c.instr s = .next t
        ∧ t.link.busy = none ∧ t.link.reserved = false ∧ t.link.inbox = s.link.inbox
        ∧ t.link.replies = answer code data
        ∧ code ≠ .full ∧ (code = .deferred → c = .reset)
        ∧ (c.isQuery = false ∨ code ≠ .done → data = [])
        ∧ (c.isQuery = true ∨ (code ≠ .done ∧ code ≠ .deferred) →
          t = { s with link := { s.link with busy := none, reserved := false, replies := t.link.replies } })

/-- Settings read back as they were written (R189 with R11, R13 and R182): what a table, a part or an entry is reported as is, byte for
byte, the arguments that set it. So no bit of an argument is dropped on its way in or out. -/
def Obligations.SettingsReadBackAsWritten : Prop :=
  ∀ a : List Byte,
    (a.length = 11 → walkData (walkArg a) = a)
    ∧ (a.length = 18 → contactData (contactArg a) = a)
    ∧ (a.length = 34 → limitsData (some (limitsArg a)) = 1 :: a.drop 1)
    ∧ (a.length = 31 → bandData ⟨gainsArg a 0, gainsArg a 1, gainsArg a 2⟩ = a.drop 1)
    ∧ (a.length = 66 → knotsData (knotsArg a) = a.drop 2)
    ∧ (∀ h, a.length = 11 → headerArg a = some h → headerData h = a.drop 2)
    ∧ (∀ g, (a.length = 14 ∧ u8 a 1 = 0) ∨ (a.length = 11 ∧ (u8 a 1 = 1 ∨ u8 a 1 = 2)) → gaitArg a = some g →
        gaitData (some g) = 1 :: a.drop 1)
    ∧ (∀ src x, a.length = 8 → sourceArg (u8 a 0) = some src → reflexArg src a = some x → sourceData x = a.drop 1)
end

