-- ==== Sys2Proof/Laws/Fields.lean ====
section
/-!
SUPPORT. What the plain arithmetic can give (clamps, saturating counts, steps toward a target), and that each field width reads
back what was written in it.
-/

namespace Sys2Proof

/-! ## Clamps, counts and steps -/

theorem clampI_bounds (x : Int) {lo hi : Int} (h : lo ≤ hi) : lo ≤ clampI x lo hi ∧ clampI x lo hi ≤ hi := by
  unfold clampI; split
  · omega
  · split <;> omega

theorem clampI_eq (x : Int) {lo hi : Int} (h : lo ≤ hi) : clampI x lo hi = max lo (min hi x) := by
  unfold clampI; split
  · omega
  · split <;> omega

theorem clampI_of_mem {x lo hi : Int} (h1 : lo ≤ x) (h2 : x ≤ hi) : clampI x lo hi = x := by
  unfold clampI; split
  · omega
  · split <;> omega

theorem clampN_bounds (x : Nat) {lo hi : Nat} (h : lo ≤ hi) : lo ≤ clampN x lo hi ∧ clampN x lo hi ≤ hi := by
  unfold clampN; split
  · omega
  · split <;> omega

/-- A saturating count, below or at its top, is the minimum of its successor and the top. -/
theorem satSucc_eq (x top : Nat) : satSucc x top = min (x + 1) top := by
  unfold satSucc; split <;> omega

theorem satSucc_le (x top : Nat) : satSucc x top ≤ top := by
  rw [satSucc_eq]; omega

/-- A step toward a target lies between the value and the target. -/
theorem stepToward_between (x target step : Nat) :
    min x target ≤ stepToward x target step ∧ stepToward x target step ≤ max x target := by
  unfold stepToward; split
  · split <;> omega
  · split <;> omega

theorem stepToward_eq (x target step : Nat) :
    stepToward x target step
      = if x ≤ target then min (x + step) target else max (x - step) target := by
  unfold stepToward; split
  · split <;> split <;> omega
  · split <;> split <;> omega

/-- A forward distance is below a whole stride (R1). -/
theorem fwd_lt (a b : Phase) : fwd a b < 65536 := (b - a).isLt

theorem fwd_eq_zero (a b : Phase) : fwd a b = 0 ↔ a = b := by
  unfold fwd; constructor
  · intro h; have : b - a = 0 := BitVec.eq_of_toNat_eq h
    bv_omega
  · intro h; subst h; simp

namespace Machine

/-! ## Fields -/

theorem u8_lt (a : List Byte) (i : Nat) : u8 a i < 256 := (a.getD i 0).isLt

theorem u16_lt (a : List Byte) (i : Nat) : u16 a i < 65536 := by
  have h1 := u8_lt a i; have h2 := u8_lt a (i + 1)
  unfold u16; omega

@[simp] theorem byte_u8 (a : List Byte) (i : Nat) : byte (u8 a i) = a.getD i 0 := by
  simp [byte, u8]

/-- The two bytes of a 16-bit number. -/
theorem bytes16_ofNat (x y : Byte) : bytes16 (BitVec.ofNat 16 (x.toNat * 256 + y.toNat)) = [x, y] := by
  have hx := x.isLt; have hy := y.isLt
  simp only [bytes16, crcBytes, List.cons.injEq, and_true]
  constructor <;> apply BitVec.eq_of_toNat_eq <;>
    simp only [BitVec.toNat_setWidth, BitVec.toNat_ushiftRight, BitVec.toNat_ofNat, Nat.shiftRight_eq_div_pow] <;> omega

/-- An unsigned field is reported as it was sent (R186). -/
theorem field16_u16 (a : List Byte) (i : Nat) : field16 (u16 a i) = [a.getD i 0, a.getD (i + 1) 0] := by
  unfold field16 u16 u8; exact bytes16_ofNat _ _

/-- A phase is reported as it was sent (R186). -/
theorem bytes16_phaseAt (a : List Byte) (i : Nat) : bytes16 (phaseAt a i) = [a.getD i 0, a.getD (i + 1) 0] :=
  field16_u16 a i

theorem ofInt_signed16 (n : Nat) (h : n < 65536) : BitVec.ofInt 16 (signed16 n) = BitVec.ofNat 16 n := by
  unfold signed16; split
  · simp
  · apply BitVec.eq_of_toNat_eq
    simp only [BitVec.toNat_ofInt, BitVec.toNat_ofNat]
    omega

/-- A signed field is reported as it was sent (R186). -/
theorem bytesS16_s16 (a : List Byte) (i : Nat) : bytesS16 (s16 a i) = [a.getD i 0, a.getD (i + 1) 0] := by
  unfold bytesS16 s16; rw [ofInt_signed16 _ (u16_lt a i)]; exact field16_u16 a i

/-- A signed field lies in the sixteen-bit range. -/
theorem s16_bounds (a : List Byte) (i : Nat) : -32768 ≤ s16 a i ∧ s16 a i ≤ 32767 := by
  have h := u16_lt a i
  unfold s16 signed16; split <;> omega

/-- A body record as read from its slot is lawful. -/
theorem readBodyRec_lawful (slot : List Byte) : (readBodyRec slot).lawful :=
  ⟨s16_bounds .., s16_bounds ..⟩

theorem crcBytes_length (c : BitVec 16) : (crcBytes c).length = 2 := rfl

end Machine

end Sys2Proof
end

