-- ==== Sys2Proof/Laws/State.lean ====
section
/-!
SUPPORT. The record updates of the shared operations, field by field: what each leaves as it was, and what each sets, so that no
later proof unfolds an update. All but a few hold by rfl.
-/

namespace Sys2Proof.Machine

/-! ## The fields that each operation leaves as they were -/

@[simp] theorem State.alertAt_banks (s : State) (tag : Byte) (kind : AlertKind) (key : Key) (detail : Detail) (value : Int) :
    (s.alertAt tag kind key detail value).banks = s.banks :=
    rfl
@[simp] theorem State.alertAt_gaits (s : State) (tag : Byte) (kind : AlertKind) (key : Key) (detail : Detail) (value : Int) :
    (s.alertAt tag kind key detail value).gaits = s.gaits :=
    rfl
@[simp] theorem State.alertAt_engine (s : State) (tag : Byte) (kind : AlertKind) (key : Key) (detail : Detail) (value : Int) :
    (s.alertAt tag kind key detail value).engine = s.engine :=
    rfl
@[simp] theorem State.alertAt_monitor (s : State) (tag : Byte) (kind : AlertKind) (key : Key) (detail : Detail) (value : Int) :
    (s.alertAt tag kind key detail value).monitor = s.monitor :=
    rfl
@[simp] theorem State.alertAt_balance (s : State) (tag : Byte) (kind : AlertKind) (key : Key) (detail : Detail) (value : Int) :
    (s.alertAt tag kind key detail value).balance = s.balance :=
    rfl
@[simp] theorem State.alertAt_arbiter (s : State) (tag : Byte) (kind : AlertKind) (key : Key) (detail : Detail) (value : Int) :
    (s.alertAt tag kind key detail value).arbiter = s.arbiter :=
    rfl
@[simp] theorem State.alertAt_unit (s : State) (tag : Byte) (kind : AlertKind) (key : Key) (detail : Detail) (value : Int) :
    (s.alertAt tag kind key detail value).unit = s.unit :=
    rfl
@[simp] theorem State.alertAt_shaper (s : State) (tag : Byte) (kind : AlertKind) (key : Key) (detail : Detail) (value : Int) :
    (s.alertAt tag kind key detail value).shaper = s.shaper :=
    rfl
@[simp] theorem State.alertAt_limits (s : State) (tag : Byte) (kind : AlertKind) (key : Key) (detail : Detail) (value : Int) :
    (s.alertAt tag kind key detail value).limits = s.limits :=
    rfl
@[simp] theorem State.alertAt_ring (s : State) (tag : Byte) (kind : AlertKind) (key : Key) (detail : Detail) (value : Int) :
    (s.alertAt tag kind key detail value).ring = s.ring :=
    rfl
@[simp] theorem State.alertAt_sup (s : State) (tag : Byte) (kind : AlertKind) (key : Key) (detail : Detail) (value : Int) :
    (s.alertAt tag kind key detail value).sup = s.sup :=
    rfl
@[simp] theorem State.alertAt_wires (s : State) (tag : Byte) (kind : AlertKind) (key : Key) (detail : Detail) (value : Int) :
    (s.alertAt tag kind key detail value).wires = s.wires :=
    rfl
@[simp] theorem State.alertAt_freeDraws (s : State) (tag : Byte) (kind : AlertKind) (key : Key) (detail : Detail) (value : Int) :
    (s.alertAt tag kind key detail value).freeDraws = s.freeDraws :=
    rfl
@[simp] theorem State.alertAt_pending (s : State) (tag : Byte) (kind : AlertKind) (key : Key) (detail : Detail) (value : Int) :
    (s.alertAt tag kind key detail value).pending = s.pending :=
    rfl

@[simp] theorem State.alert_banks (s : State) (kind : AlertKind) (key : Key) (detail : Detail) (value : Int) :
    (s.alert kind key detail value).banks = s.banks :=
    rfl
@[simp] theorem State.alert_gaits (s : State) (kind : AlertKind) (key : Key) (detail : Detail) (value : Int) :
    (s.alert kind key detail value).gaits = s.gaits :=
    rfl
@[simp] theorem State.alert_engine (s : State) (kind : AlertKind) (key : Key) (detail : Detail) (value : Int) :
    (s.alert kind key detail value).engine = s.engine :=
    rfl
@[simp] theorem State.alert_monitor (s : State) (kind : AlertKind) (key : Key) (detail : Detail) (value : Int) :
    (s.alert kind key detail value).monitor = s.monitor :=
    rfl
@[simp] theorem State.alert_balance (s : State) (kind : AlertKind) (key : Key) (detail : Detail) (value : Int) :
    (s.alert kind key detail value).balance = s.balance :=
    rfl
@[simp] theorem State.alert_arbiter (s : State) (kind : AlertKind) (key : Key) (detail : Detail) (value : Int) :
    (s.alert kind key detail value).arbiter = s.arbiter :=
    rfl
@[simp] theorem State.alert_unit (s : State) (kind : AlertKind) (key : Key) (detail : Detail) (value : Int) :
    (s.alert kind key detail value).unit = s.unit :=
    rfl
@[simp] theorem State.alert_shaper (s : State) (kind : AlertKind) (key : Key) (detail : Detail) (value : Int) :
    (s.alert kind key detail value).shaper = s.shaper :=
    rfl
@[simp] theorem State.alert_limits (s : State) (kind : AlertKind) (key : Key) (detail : Detail) (value : Int) :
    (s.alert kind key detail value).limits = s.limits :=
    rfl
@[simp] theorem State.alert_ring (s : State) (kind : AlertKind) (key : Key) (detail : Detail) (value : Int) :
    (s.alert kind key detail value).ring = s.ring :=
    rfl
@[simp] theorem State.alert_sup (s : State) (kind : AlertKind) (key : Key) (detail : Detail) (value : Int) :
    (s.alert kind key detail value).sup = s.sup :=
    rfl
@[simp] theorem State.alert_wires (s : State) (kind : AlertKind) (key : Key) (detail : Detail) (value : Int) :
    (s.alert kind key detail value).wires = s.wires :=
    rfl
@[simp] theorem State.alert_freeDraws (s : State) (kind : AlertKind) (key : Key) (detail : Detail) (value : Int) :
    (s.alert kind key detail value).freeDraws = s.freeDraws :=
    rfl
@[simp] theorem State.alert_pending (s : State) (kind : AlertKind) (key : Key) (detail : Detail) (value : Int) :
    (s.alert kind key detail value).pending = s.pending :=
    rfl

@[simp] theorem State.alertState_banks (s : State) (entered left : OpState) (posture : Option Posture) :
    (s.alertState entered left posture).banks = s.banks :=
    rfl
@[simp] theorem State.alertState_gaits (s : State) (entered left : OpState) (posture : Option Posture) :
    (s.alertState entered left posture).gaits = s.gaits :=
    rfl
@[simp] theorem State.alertState_engine (s : State) (entered left : OpState) (posture : Option Posture) :
    (s.alertState entered left posture).engine = s.engine :=
    rfl
@[simp] theorem State.alertState_monitor (s : State) (entered left : OpState) (posture : Option Posture) :
    (s.alertState entered left posture).monitor = s.monitor :=
    rfl
@[simp] theorem State.alertState_balance (s : State) (entered left : OpState) (posture : Option Posture) :
    (s.alertState entered left posture).balance = s.balance :=
    rfl
@[simp] theorem State.alertState_arbiter (s : State) (entered left : OpState) (posture : Option Posture) :
    (s.alertState entered left posture).arbiter = s.arbiter :=
    rfl
@[simp] theorem State.alertState_unit (s : State) (entered left : OpState) (posture : Option Posture) :
    (s.alertState entered left posture).unit = s.unit :=
    rfl
@[simp] theorem State.alertState_shaper (s : State) (entered left : OpState) (posture : Option Posture) :
    (s.alertState entered left posture).shaper = s.shaper :=
    rfl
@[simp] theorem State.alertState_limits (s : State) (entered left : OpState) (posture : Option Posture) :
    (s.alertState entered left posture).limits = s.limits :=
    rfl
@[simp] theorem State.alertState_ring (s : State) (entered left : OpState) (posture : Option Posture) :
    (s.alertState entered left posture).ring = s.ring :=
    rfl
@[simp] theorem State.alertState_sup (s : State) (entered left : OpState) (posture : Option Posture) :
    (s.alertState entered left posture).sup = s.sup :=
    rfl
@[simp] theorem State.alertState_wires (s : State) (entered left : OpState) (posture : Option Posture) :
    (s.alertState entered left posture).wires = s.wires :=
    rfl
@[simp] theorem State.alertState_freeDraws (s : State) (entered left : OpState) (posture : Option Posture) :
    (s.alertState entered left posture).freeDraws = s.freeDraws :=
    rfl
@[simp] theorem State.alertState_pending (s : State) (entered left : OpState) (posture : Option Posture) :
    (s.alertState entered left posture).pending = s.pending :=
    rfl

@[simp] theorem State.alertDone_banks (s : State) (o : EndOutcome) (e : Entry) : (s.alertDone o e).banks = s.banks := rfl
@[simp] theorem State.alertDone_gaits (s : State) (o : EndOutcome) (e : Entry) : (s.alertDone o e).gaits = s.gaits := rfl
@[simp] theorem State.alertDone_engine (s : State) (o : EndOutcome) (e : Entry) : (s.alertDone o e).engine = s.engine := rfl
@[simp] theorem State.alertDone_monitor (s : State) (o : EndOutcome) (e : Entry) : (s.alertDone o e).monitor = s.monitor :=
    rfl
@[simp] theorem State.alertDone_balance (s : State) (o : EndOutcome) (e : Entry) : (s.alertDone o e).balance = s.balance :=
    rfl
@[simp] theorem State.alertDone_arbiter (s : State) (o : EndOutcome) (e : Entry) : (s.alertDone o e).arbiter = s.arbiter :=
    rfl
@[simp] theorem State.alertDone_unit (s : State) (o : EndOutcome) (e : Entry) : (s.alertDone o e).unit = s.unit := rfl
@[simp] theorem State.alertDone_shaper (s : State) (o : EndOutcome) (e : Entry) : (s.alertDone o e).shaper = s.shaper := rfl
@[simp] theorem State.alertDone_limits (s : State) (o : EndOutcome) (e : Entry) : (s.alertDone o e).limits = s.limits := rfl
@[simp] theorem State.alertDone_ring (s : State) (o : EndOutcome) (e : Entry) : (s.alertDone o e).ring = s.ring := rfl
@[simp] theorem State.alertDone_sup (s : State) (o : EndOutcome) (e : Entry) : (s.alertDone o e).sup = s.sup := rfl
@[simp] theorem State.alertDone_wires (s : State) (o : EndOutcome) (e : Entry) : (s.alertDone o e).wires = s.wires := rfl
@[simp] theorem State.alertDone_freeDraws (s : State) (o : EndOutcome) (e : Entry) :
    (s.alertDone o e).freeDraws = s.freeDraws :=
    rfl
@[simp] theorem State.alertDone_pending (s : State) (o : EndOutcome) (e : Entry) : (s.alertDone o e).pending = s.pending :=
    rfl

@[simp] theorem State.sendRaise_banks (s : State) (line : Nat) (value : Int) : (s.sendRaise line value).banks = s.banks :=
    rfl
@[simp] theorem State.sendRaise_gaits (s : State) (line : Nat) (value : Int) : (s.sendRaise line value).gaits = s.gaits :=
    rfl
@[simp] theorem State.sendRaise_engine (s : State) (line : Nat) (value : Int) : (s.sendRaise line value).engine = s.engine :=
    rfl
@[simp] theorem State.sendRaise_monitor (s : State) (line : Nat) (value : Int) : (s.sendRaise line value).monitor = s.monitor :=
    rfl
@[simp] theorem State.sendRaise_balance (s : State) (line : Nat) (value : Int) : (s.sendRaise line value).balance = s.balance :=
    rfl
@[simp] theorem State.sendRaise_arbiter (s : State) (line : Nat) (value : Int) : (s.sendRaise line value).arbiter = s.arbiter :=
    rfl
@[simp] theorem State.sendRaise_unit (s : State) (line : Nat) (value : Int) : (s.sendRaise line value).unit = s.unit := rfl
@[simp] theorem State.sendRaise_shaper (s : State) (line : Nat) (value : Int) : (s.sendRaise line value).shaper = s.shaper :=
    rfl
@[simp] theorem State.sendRaise_limits (s : State) (line : Nat) (value : Int) : (s.sendRaise line value).limits = s.limits :=
    rfl
@[simp] theorem State.sendRaise_ring (s : State) (line : Nat) (value : Int) : (s.sendRaise line value).ring = s.ring := rfl
@[simp] theorem State.sendRaise_sup (s : State) (line : Nat) (value : Int) : (s.sendRaise line value).sup = s.sup := rfl
@[simp] theorem State.sendRaise_link (s : State) (line : Nat) (value : Int) : (s.sendRaise line value).link = s.link := rfl
@[simp] theorem State.sendRaise_freeDraws (s : State) (line : Nat) (value : Int) :
    (s.sendRaise line value).freeDraws = s.freeDraws :=
    rfl
@[simp] theorem State.sendRaise_pending (s : State) (line : Nat) (value : Int) : (s.sendRaise line value).pending = s.pending :=
    rfl

@[simp] theorem State.askStop_banks (s : State) : (s.askStop).banks = s.banks := rfl
@[simp] theorem State.askStop_gaits (s : State) : (s.askStop).gaits = s.gaits := rfl
@[simp] theorem State.askStop_engine (s : State) : (s.askStop).engine = s.engine := rfl
@[simp] theorem State.askStop_monitor (s : State) : (s.askStop).monitor = s.monitor := rfl
@[simp] theorem State.askStop_balance (s : State) : (s.askStop).balance = s.balance := rfl
@[simp] theorem State.askStop_arbiter (s : State) : (s.askStop).arbiter = s.arbiter := rfl
@[simp] theorem State.askStop_unit (s : State) : (s.askStop).unit = s.unit := rfl
@[simp] theorem State.askStop_shaper (s : State) : (s.askStop).shaper = s.shaper := rfl
@[simp] theorem State.askStop_limits (s : State) : (s.askStop).limits = s.limits := rfl
@[simp] theorem State.askStop_ring (s : State) : (s.askStop).ring = s.ring := rfl
@[simp] theorem State.askStop_sup (s : State) : (s.askStop).sup = s.sup := rfl
@[simp] theorem State.askStop_link (s : State) : (s.askStop).link = s.link := rfl
@[simp] theorem State.askStop_freeDraws (s : State) : (s.askStop).freeDraws = s.freeDraws := rfl
@[simp] theorem State.askStop_pending (s : State) : (s.askStop).pending = s.pending := rfl

@[simp] theorem State.askWalk_banks (s : State) : (s.askWalk).banks = s.banks := rfl
@[simp] theorem State.askWalk_gaits (s : State) : (s.askWalk).gaits = s.gaits := rfl
@[simp] theorem State.askWalk_engine (s : State) : (s.askWalk).engine = s.engine := rfl
@[simp] theorem State.askWalk_monitor (s : State) : (s.askWalk).monitor = s.monitor := rfl
@[simp] theorem State.askWalk_balance (s : State) : (s.askWalk).balance = s.balance := rfl
@[simp] theorem State.askWalk_arbiter (s : State) : (s.askWalk).arbiter = s.arbiter := rfl
@[simp] theorem State.askWalk_unit (s : State) : (s.askWalk).unit = s.unit := rfl
@[simp] theorem State.askWalk_shaper (s : State) : (s.askWalk).shaper = s.shaper := rfl
@[simp] theorem State.askWalk_limits (s : State) : (s.askWalk).limits = s.limits := rfl
@[simp] theorem State.askWalk_ring (s : State) : (s.askWalk).ring = s.ring := rfl
@[simp] theorem State.askWalk_sup (s : State) : (s.askWalk).sup = s.sup := rfl
@[simp] theorem State.askWalk_link (s : State) : (s.askWalk).link = s.link := rfl
@[simp] theorem State.askWalk_freeDraws (s : State) : (s.askWalk).freeDraws = s.freeDraws := rfl
@[simp] theorem State.askWalk_pending (s : State) : (s.askWalk).pending = s.pending := rfl

@[simp] theorem State.askSafe_banks (s : State) (c : SafeCause) : (s.askSafe c).banks = s.banks := rfl
@[simp] theorem State.askSafe_gaits (s : State) (c : SafeCause) : (s.askSafe c).gaits = s.gaits := rfl
@[simp] theorem State.askSafe_engine (s : State) (c : SafeCause) : (s.askSafe c).engine = s.engine := rfl
@[simp] theorem State.askSafe_monitor (s : State) (c : SafeCause) : (s.askSafe c).monitor = s.monitor := rfl
@[simp] theorem State.askSafe_balance (s : State) (c : SafeCause) : (s.askSafe c).balance = s.balance := rfl
@[simp] theorem State.askSafe_arbiter (s : State) (c : SafeCause) : (s.askSafe c).arbiter = s.arbiter := rfl
@[simp] theorem State.askSafe_unit (s : State) (c : SafeCause) : (s.askSafe c).unit = s.unit := rfl
@[simp] theorem State.askSafe_shaper (s : State) (c : SafeCause) : (s.askSafe c).shaper = s.shaper := rfl
@[simp] theorem State.askSafe_limits (s : State) (c : SafeCause) : (s.askSafe c).limits = s.limits := rfl
@[simp] theorem State.askSafe_ring (s : State) (c : SafeCause) : (s.askSafe c).ring = s.ring := rfl
@[simp] theorem State.askSafe_sup (s : State) (c : SafeCause) : (s.askSafe c).sup = s.sup := rfl
@[simp] theorem State.askSafe_link (s : State) (c : SafeCause) : (s.askSafe c).link = s.link := rfl
@[simp] theorem State.askSafe_freeDraws (s : State) (c : SafeCause) : (s.askSafe c).freeDraws = s.freeDraws := rfl
@[simp] theorem State.askSafe_pending (s : State) (c : SafeCause) : (s.askSafe c).pending = s.pending := rfl

@[simp] theorem State.mapContacts_banks (s : State) (f : LegId → LegContact → LegContact) : (s.mapContacts f).banks = s.banks :=
    rfl
@[simp] theorem State.mapContacts_gaits (s : State) (f : LegId → LegContact → LegContact) : (s.mapContacts f).gaits = s.gaits :=
    rfl
@[simp] theorem State.mapContacts_engine (s : State) (f : LegId → LegContact → LegContact) :
    (s.mapContacts f).engine = s.engine :=
    rfl
@[simp] theorem State.mapContacts_balance (s : State) (f : LegId → LegContact → LegContact) :
    (s.mapContacts f).balance = s.balance :=
    rfl
@[simp] theorem State.mapContacts_arbiter (s : State) (f : LegId → LegContact → LegContact) :
    (s.mapContacts f).arbiter = s.arbiter :=
    rfl
@[simp] theorem State.mapContacts_unit (s : State) (f : LegId → LegContact → LegContact) : (s.mapContacts f).unit = s.unit :=
    rfl
@[simp] theorem State.mapContacts_shaper (s : State) (f : LegId → LegContact → LegContact) :
    (s.mapContacts f).shaper = s.shaper :=
    rfl
@[simp] theorem State.mapContacts_limits (s : State) (f : LegId → LegContact → LegContact) :
    (s.mapContacts f).limits = s.limits :=
    rfl
@[simp] theorem State.mapContacts_ring (s : State) (f : LegId → LegContact → LegContact) : (s.mapContacts f).ring = s.ring :=
    rfl
@[simp] theorem State.mapContacts_sup (s : State) (f : LegId → LegContact → LegContact) : (s.mapContacts f).sup = s.sup :=
    rfl
@[simp] theorem State.mapContacts_link (s : State) (f : LegId → LegContact → LegContact) : (s.mapContacts f).link = s.link :=
    rfl
@[simp] theorem State.mapContacts_wires (s : State) (f : LegId → LegContact → LegContact) : (s.mapContacts f).wires = s.wires :=
    rfl
@[simp] theorem State.mapContacts_freeDraws (s : State) (f : LegId → LegContact → LegContact) :
    (s.mapContacts f).freeDraws = s.freeDraws :=
    rfl
@[simp] theorem State.mapContacts_pending (s : State) (f : LegId → LegContact → LegContact) :
    (s.mapContacts f).pending = s.pending :=
    rfl

@[simp] theorem State.dropCaptures_banks (s : State) : (s.dropCaptures).banks = s.banks := rfl
@[simp] theorem State.dropCaptures_gaits (s : State) : (s.dropCaptures).gaits = s.gaits := rfl
@[simp] theorem State.dropCaptures_engine (s : State) : (s.dropCaptures).engine = s.engine := rfl
@[simp] theorem State.dropCaptures_balance (s : State) : (s.dropCaptures).balance = s.balance := rfl
@[simp] theorem State.dropCaptures_arbiter (s : State) : (s.dropCaptures).arbiter = s.arbiter := rfl
@[simp] theorem State.dropCaptures_unit (s : State) : (s.dropCaptures).unit = s.unit := rfl
@[simp] theorem State.dropCaptures_shaper (s : State) : (s.dropCaptures).shaper = s.shaper := rfl
@[simp] theorem State.dropCaptures_limits (s : State) : (s.dropCaptures).limits = s.limits := rfl
@[simp] theorem State.dropCaptures_ring (s : State) : (s.dropCaptures).ring = s.ring := rfl
@[simp] theorem State.dropCaptures_sup (s : State) : (s.dropCaptures).sup = s.sup := rfl
@[simp] theorem State.dropCaptures_link (s : State) : (s.dropCaptures).link = s.link := rfl
@[simp] theorem State.dropCaptures_wires (s : State) : (s.dropCaptures).wires = s.wires := rfl
@[simp] theorem State.dropCaptures_freeDraws (s : State) : (s.dropCaptures).freeDraws = s.freeDraws := rfl
@[simp] theorem State.dropCaptures_pending (s : State) : (s.dropCaptures).pending = s.pending := rfl

@[simp] theorem State.dropMovedCaptures_banks (s : State) (before : PerLeg Slot) :
    (s.dropMovedCaptures before).banks = s.banks :=
    rfl
@[simp] theorem State.dropMovedCaptures_gaits (s : State) (before : PerLeg Slot) :
    (s.dropMovedCaptures before).gaits = s.gaits :=
    rfl
@[simp] theorem State.dropMovedCaptures_engine (s : State) (before : PerLeg Slot) :
    (s.dropMovedCaptures before).engine = s.engine :=
    rfl
@[simp] theorem State.dropMovedCaptures_balance (s : State) (before : PerLeg Slot) :
    (s.dropMovedCaptures before).balance = s.balance :=
    rfl
@[simp] theorem State.dropMovedCaptures_arbiter (s : State) (before : PerLeg Slot) :
    (s.dropMovedCaptures before).arbiter = s.arbiter :=
    rfl
@[simp] theorem State.dropMovedCaptures_unit (s : State) (before : PerLeg Slot) : (s.dropMovedCaptures before).unit = s.unit :=
    rfl
@[simp] theorem State.dropMovedCaptures_shaper (s : State) (before : PerLeg Slot) :
    (s.dropMovedCaptures before).shaper = s.shaper :=
    rfl
@[simp] theorem State.dropMovedCaptures_limits (s : State) (before : PerLeg Slot) :
    (s.dropMovedCaptures before).limits = s.limits :=
    rfl
@[simp] theorem State.dropMovedCaptures_ring (s : State) (before : PerLeg Slot) : (s.dropMovedCaptures before).ring = s.ring :=
    rfl
@[simp] theorem State.dropMovedCaptures_sup (s : State) (before : PerLeg Slot) : (s.dropMovedCaptures before).sup = s.sup :=
    rfl
@[simp] theorem State.dropMovedCaptures_link (s : State) (before : PerLeg Slot) : (s.dropMovedCaptures before).link = s.link :=
    rfl
@[simp] theorem State.dropMovedCaptures_wires (s : State) (before : PerLeg Slot) :
    (s.dropMovedCaptures before).wires = s.wires :=
    rfl
@[simp] theorem State.dropMovedCaptures_freeDraws (s : State) (before : PerLeg Slot) :
    (s.dropMovedCaptures before).freeDraws = s.freeDraws :=
    rfl
@[simp] theorem State.dropMovedCaptures_pending (s : State) (before : PerLeg Slot) :
    (s.dropMovedCaptures before).pending = s.pending :=
    rfl

@[simp] theorem State.setContact_banks (s : State) (l : LegId) (c : LegContact) : (s.setContact l c).banks = s.banks := rfl
@[simp] theorem State.setContact_gaits (s : State) (l : LegId) (c : LegContact) : (s.setContact l c).gaits = s.gaits := rfl
@[simp] theorem State.setContact_engine (s : State) (l : LegId) (c : LegContact) : (s.setContact l c).engine = s.engine :=
    rfl
@[simp] theorem State.setContact_balance (s : State) (l : LegId) (c : LegContact) : (s.setContact l c).balance = s.balance :=
    rfl
@[simp] theorem State.setContact_arbiter (s : State) (l : LegId) (c : LegContact) : (s.setContact l c).arbiter = s.arbiter :=
    rfl
@[simp] theorem State.setContact_unit (s : State) (l : LegId) (c : LegContact) : (s.setContact l c).unit = s.unit := rfl
@[simp] theorem State.setContact_shaper (s : State) (l : LegId) (c : LegContact) : (s.setContact l c).shaper = s.shaper :=
    rfl
@[simp] theorem State.setContact_limits (s : State) (l : LegId) (c : LegContact) : (s.setContact l c).limits = s.limits :=
    rfl
@[simp] theorem State.setContact_ring (s : State) (l : LegId) (c : LegContact) : (s.setContact l c).ring = s.ring := rfl
@[simp] theorem State.setContact_sup (s : State) (l : LegId) (c : LegContact) : (s.setContact l c).sup = s.sup := rfl
@[simp] theorem State.setContact_link (s : State) (l : LegId) (c : LegContact) : (s.setContact l c).link = s.link := rfl
@[simp] theorem State.setContact_wires (s : State) (l : LegId) (c : LegContact) : (s.setContact l c).wires = s.wires := rfl
@[simp] theorem State.setContact_freeDraws (s : State) (l : LegId) (c : LegContact) :
    (s.setContact l c).freeDraws = s.freeDraws :=
    rfl
@[simp] theorem State.setContact_pending (s : State) (l : LegId) (c : LegContact) : (s.setContact l c).pending = s.pending :=
    rfl

@[simp] theorem State.setTop_banks (s : State) (e : Entry) : (s.setTop e).banks = s.banks := rfl
@[simp] theorem State.setTop_gaits (s : State) (e : Entry) : (s.setTop e).gaits = s.gaits := rfl
@[simp] theorem State.setTop_engine (s : State) (e : Entry) : (s.setTop e).engine = s.engine := rfl
@[simp] theorem State.setTop_monitor (s : State) (e : Entry) : (s.setTop e).monitor = s.monitor := rfl
@[simp] theorem State.setTop_balance (s : State) (e : Entry) : (s.setTop e).balance = s.balance := rfl
@[simp] theorem State.setTop_unit (s : State) (e : Entry) : (s.setTop e).unit = s.unit := rfl
@[simp] theorem State.setTop_shaper (s : State) (e : Entry) : (s.setTop e).shaper = s.shaper := rfl
@[simp] theorem State.setTop_limits (s : State) (e : Entry) : (s.setTop e).limits = s.limits := rfl
@[simp] theorem State.setTop_ring (s : State) (e : Entry) : (s.setTop e).ring = s.ring := rfl
@[simp] theorem State.setTop_sup (s : State) (e : Entry) : (s.setTop e).sup = s.sup := rfl
@[simp] theorem State.setTop_link (s : State) (e : Entry) : (s.setTop e).link = s.link := rfl
@[simp] theorem State.setTop_wires (s : State) (e : Entry) : (s.setTop e).wires = s.wires := rfl
@[simp] theorem State.setTop_freeDraws (s : State) (e : Entry) : (s.setTop e).freeDraws = s.freeDraws := rfl
@[simp] theorem State.setTop_pending (s : State) (e : Entry) : (s.setTop e).pending = s.pending := rfl

@[simp] theorem State.finish_banks (s : State) (f : Finish) : (s.finish f).banks = s.banks := rfl
@[simp] theorem State.finish_gaits (s : State) (f : Finish) : (s.finish f).gaits = s.gaits := rfl
@[simp] theorem State.finish_engine (s : State) (f : Finish) : (s.finish f).engine = s.engine := rfl
@[simp] theorem State.finish_monitor (s : State) (f : Finish) : (s.finish f).monitor = s.monitor := rfl
@[simp] theorem State.finish_balance (s : State) (f : Finish) : (s.finish f).balance = s.balance := rfl
@[simp] theorem State.finish_arbiter (s : State) (f : Finish) : (s.finish f).arbiter = s.arbiter := rfl
@[simp] theorem State.finish_shaper (s : State) (f : Finish) : (s.finish f).shaper = s.shaper := rfl
@[simp] theorem State.finish_limits (s : State) (f : Finish) : (s.finish f).limits = s.limits := rfl
@[simp] theorem State.finish_ring (s : State) (f : Finish) : (s.finish f).ring = s.ring := rfl
@[simp] theorem State.finish_sup (s : State) (f : Finish) : (s.finish f).sup = s.sup := rfl
@[simp] theorem State.finish_link (s : State) (f : Finish) : (s.finish f).link = s.link := rfl
@[simp] theorem State.finish_wires (s : State) (f : Finish) : (s.finish f).wires = s.wires := rfl
@[simp] theorem State.finish_freeDraws (s : State) (f : Finish) : (s.finish f).freeDraws = s.freeDraws := rfl
@[simp] theorem State.finish_pending (s : State) (f : Finish) : (s.finish f).pending = s.pending := rfl

@[simp] theorem State.repark_banks (s : State) : (s.repark).banks = s.banks := rfl
@[simp] theorem State.repark_gaits (s : State) : (s.repark).gaits = s.gaits := rfl
@[simp] theorem State.repark_balance (s : State) : (s.repark).balance = s.balance := rfl
@[simp] theorem State.repark_arbiter (s : State) : (s.repark).arbiter = s.arbiter := rfl
@[simp] theorem State.repark_unit (s : State) : (s.repark).unit = s.unit := rfl
@[simp] theorem State.repark_shaper (s : State) : (s.repark).shaper = s.shaper := rfl
@[simp] theorem State.repark_limits (s : State) : (s.repark).limits = s.limits := rfl
@[simp] theorem State.repark_ring (s : State) : (s.repark).ring = s.ring := rfl
@[simp] theorem State.repark_sup (s : State) : (s.repark).sup = s.sup := rfl
@[simp] theorem State.repark_link (s : State) : (s.repark).link = s.link := rfl
@[simp] theorem State.repark_wires (s : State) : (s.repark).wires = s.wires := rfl
@[simp] theorem State.repark_freeDraws (s : State) : (s.repark).freeDraws = s.freeDraws := rfl
@[simp] theorem State.repark_pending (s : State) : (s.repark).pending = s.pending := rfl

@[simp] theorem State.rederive_banks (s : State) : (s.rederive).banks = s.banks := rfl
@[simp] theorem State.rederive_gaits (s : State) : (s.rederive).gaits = s.gaits := rfl
@[simp] theorem State.rederive_balance (s : State) : (s.rederive).balance = s.balance := rfl
@[simp] theorem State.rederive_arbiter (s : State) : (s.rederive).arbiter = s.arbiter := rfl
@[simp] theorem State.rederive_unit (s : State) : (s.rederive).unit = s.unit := rfl
@[simp] theorem State.rederive_shaper (s : State) : (s.rederive).shaper = s.shaper := rfl
@[simp] theorem State.rederive_limits (s : State) : (s.rederive).limits = s.limits := rfl
@[simp] theorem State.rederive_ring (s : State) : (s.rederive).ring = s.ring := rfl
@[simp] theorem State.rederive_sup (s : State) : (s.rederive).sup = s.sup := rfl
@[simp] theorem State.rederive_link (s : State) : (s.rederive).link = s.link := rfl
@[simp] theorem State.rederive_wires (s : State) : (s.rederive).wires = s.wires := rfl
@[simp] theorem State.rederive_freeDraws (s : State) : (s.rederive).freeDraws = s.freeDraws := rfl
@[simp] theorem State.rederive_pending (s : State) : (s.rederive).pending = s.pending := rfl

@[simp] theorem State.reclampRate_banks (s : State) : (s.reclampRate).banks = s.banks := rfl
@[simp] theorem State.reclampRate_gaits (s : State) : (s.reclampRate).gaits = s.gaits := rfl
@[simp] theorem State.reclampRate_monitor (s : State) : (s.reclampRate).monitor = s.monitor := rfl
@[simp] theorem State.reclampRate_balance (s : State) : (s.reclampRate).balance = s.balance := rfl
@[simp] theorem State.reclampRate_arbiter (s : State) : (s.reclampRate).arbiter = s.arbiter := rfl
@[simp] theorem State.reclampRate_unit (s : State) : (s.reclampRate).unit = s.unit := rfl
@[simp] theorem State.reclampRate_shaper (s : State) : (s.reclampRate).shaper = s.shaper := rfl
@[simp] theorem State.reclampRate_limits (s : State) : (s.reclampRate).limits = s.limits := rfl
@[simp] theorem State.reclampRate_ring (s : State) : (s.reclampRate).ring = s.ring := rfl
@[simp] theorem State.reclampRate_sup (s : State) : (s.reclampRate).sup = s.sup := rfl
@[simp] theorem State.reclampRate_link (s : State) : (s.reclampRate).link = s.link := rfl
@[simp] theorem State.reclampRate_wires (s : State) : (s.reclampRate).wires = s.wires := rfl
@[simp] theorem State.reclampRate_freeDraws (s : State) : (s.reclampRate).freeDraws = s.freeDraws := rfl
@[simp] theorem State.reclampRate_pending (s : State) : (s.reclampRate).pending = s.pending := rfl

@[simp] theorem State.dropReturn_banks (s : State) (rest : List Byte) : (s.dropReturn rest).banks = s.banks := rfl
@[simp] theorem State.dropReturn_gaits (s : State) (rest : List Byte) : (s.dropReturn rest).gaits = s.gaits := rfl
@[simp] theorem State.dropReturn_engine (s : State) (rest : List Byte) : (s.dropReturn rest).engine = s.engine := rfl
@[simp] theorem State.dropReturn_monitor (s : State) (rest : List Byte) : (s.dropReturn rest).monitor = s.monitor := rfl
@[simp] theorem State.dropReturn_balance (s : State) (rest : List Byte) : (s.dropReturn rest).balance = s.balance := rfl
@[simp] theorem State.dropReturn_arbiter (s : State) (rest : List Byte) : (s.dropReturn rest).arbiter = s.arbiter := rfl
@[simp] theorem State.dropReturn_unit (s : State) (rest : List Byte) : (s.dropReturn rest).unit = s.unit := rfl
@[simp] theorem State.dropReturn_shaper (s : State) (rest : List Byte) : (s.dropReturn rest).shaper = s.shaper := rfl
@[simp] theorem State.dropReturn_limits (s : State) (rest : List Byte) : (s.dropReturn rest).limits = s.limits := rfl
@[simp] theorem State.dropReturn_ring (s : State) (rest : List Byte) : (s.dropReturn rest).ring = s.ring := rfl
@[simp] theorem State.dropReturn_sup (s : State) (rest : List Byte) : (s.dropReturn rest).sup = s.sup := rfl
@[simp] theorem State.dropReturn_link (s : State) (rest : List Byte) : (s.dropReturn rest).link = s.link := rfl
@[simp] theorem State.dropReturn_freeDraws (s : State) (rest : List Byte) : (s.dropReturn rest).freeDraws = s.freeDraws :=
    rfl
@[simp] theorem State.dropReturn_pending (s : State) (rest : List Byte) : (s.dropReturn rest).pending = s.pending := rfl

@[simp] theorem State.dropSlot_banks (s : State) (l : LegId) (rest : List LegSlot) : (s.dropSlot l rest).banks = s.banks :=
    rfl
@[simp] theorem State.dropSlot_gaits (s : State) (l : LegId) (rest : List LegSlot) : (s.dropSlot l rest).gaits = s.gaits :=
    rfl
@[simp] theorem State.dropSlot_engine (s : State) (l : LegId) (rest : List LegSlot) : (s.dropSlot l rest).engine = s.engine :=
    rfl
@[simp] theorem State.dropSlot_monitor (s : State) (l : LegId) (rest : List LegSlot) :
    (s.dropSlot l rest).monitor = s.monitor :=
    rfl
@[simp] theorem State.dropSlot_balance (s : State) (l : LegId) (rest : List LegSlot) :
    (s.dropSlot l rest).balance = s.balance :=
    rfl
@[simp] theorem State.dropSlot_arbiter (s : State) (l : LegId) (rest : List LegSlot) :
    (s.dropSlot l rest).arbiter = s.arbiter :=
    rfl
@[simp] theorem State.dropSlot_unit (s : State) (l : LegId) (rest : List LegSlot) : (s.dropSlot l rest).unit = s.unit := rfl
@[simp] theorem State.dropSlot_shaper (s : State) (l : LegId) (rest : List LegSlot) : (s.dropSlot l rest).shaper = s.shaper :=
    rfl
@[simp] theorem State.dropSlot_limits (s : State) (l : LegId) (rest : List LegSlot) : (s.dropSlot l rest).limits = s.limits :=
    rfl
@[simp] theorem State.dropSlot_ring (s : State) (l : LegId) (rest : List LegSlot) : (s.dropSlot l rest).ring = s.ring := rfl
@[simp] theorem State.dropSlot_sup (s : State) (l : LegId) (rest : List LegSlot) : (s.dropSlot l rest).sup = s.sup := rfl
@[simp] theorem State.dropSlot_link (s : State) (l : LegId) (rest : List LegSlot) : (s.dropSlot l rest).link = s.link := rfl
@[simp] theorem State.dropSlot_freeDraws (s : State) (l : LegId) (rest : List LegSlot) :
    (s.dropSlot l rest).freeDraws = s.freeDraws :=
    rfl
@[simp] theorem State.dropSlot_pending (s : State) (l : LegId) (rest : List LegSlot) :
    (s.dropSlot l rest).pending = s.pending :=
    rfl

@[simp] theorem State.dropBody_banks (s : State) (rest : List HandedBody) : (s.dropBody rest).banks = s.banks := rfl
@[simp] theorem State.dropBody_gaits (s : State) (rest : List HandedBody) : (s.dropBody rest).gaits = s.gaits := rfl
@[simp] theorem State.dropBody_engine (s : State) (rest : List HandedBody) : (s.dropBody rest).engine = s.engine := rfl
@[simp] theorem State.dropBody_monitor (s : State) (rest : List HandedBody) : (s.dropBody rest).monitor = s.monitor := rfl
@[simp] theorem State.dropBody_balance (s : State) (rest : List HandedBody) : (s.dropBody rest).balance = s.balance := rfl
@[simp] theorem State.dropBody_arbiter (s : State) (rest : List HandedBody) : (s.dropBody rest).arbiter = s.arbiter := rfl
@[simp] theorem State.dropBody_unit (s : State) (rest : List HandedBody) : (s.dropBody rest).unit = s.unit := rfl
@[simp] theorem State.dropBody_shaper (s : State) (rest : List HandedBody) : (s.dropBody rest).shaper = s.shaper := rfl
@[simp] theorem State.dropBody_limits (s : State) (rest : List HandedBody) : (s.dropBody rest).limits = s.limits := rfl
@[simp] theorem State.dropBody_ring (s : State) (rest : List HandedBody) : (s.dropBody rest).ring = s.ring := rfl
@[simp] theorem State.dropBody_sup (s : State) (rest : List HandedBody) : (s.dropBody rest).sup = s.sup := rfl
@[simp] theorem State.dropBody_link (s : State) (rest : List HandedBody) : (s.dropBody rest).link = s.link := rfl
@[simp] theorem State.dropBody_freeDraws (s : State) (rest : List HandedBody) : (s.dropBody rest).freeDraws = s.freeDraws :=
    rfl
@[simp] theorem State.dropBody_pending (s : State) (rest : List HandedBody) : (s.dropBody rest).pending = s.pending := rfl

@[simp] theorem State.dropArrived_banks (s : State) (rest : List (List Byte)) : (s.dropArrived rest).banks = s.banks := rfl
@[simp] theorem State.dropArrived_gaits (s : State) (rest : List (List Byte)) : (s.dropArrived rest).gaits = s.gaits := rfl
@[simp] theorem State.dropArrived_engine (s : State) (rest : List (List Byte)) : (s.dropArrived rest).engine = s.engine :=
    rfl
@[simp] theorem State.dropArrived_monitor (s : State) (rest : List (List Byte)) : (s.dropArrived rest).monitor = s.monitor :=
    rfl
@[simp] theorem State.dropArrived_balance (s : State) (rest : List (List Byte)) : (s.dropArrived rest).balance = s.balance :=
    rfl
@[simp] theorem State.dropArrived_arbiter (s : State) (rest : List (List Byte)) : (s.dropArrived rest).arbiter = s.arbiter :=
    rfl
@[simp] theorem State.dropArrived_unit (s : State) (rest : List (List Byte)) : (s.dropArrived rest).unit = s.unit := rfl
@[simp] theorem State.dropArrived_shaper (s : State) (rest : List (List Byte)) : (s.dropArrived rest).shaper = s.shaper :=
    rfl
@[simp] theorem State.dropArrived_limits (s : State) (rest : List (List Byte)) : (s.dropArrived rest).limits = s.limits :=
    rfl
@[simp] theorem State.dropArrived_ring (s : State) (rest : List (List Byte)) : (s.dropArrived rest).ring = s.ring := rfl
@[simp] theorem State.dropArrived_sup (s : State) (rest : List (List Byte)) : (s.dropArrived rest).sup = s.sup := rfl
@[simp] theorem State.dropArrived_link (s : State) (rest : List (List Byte)) : (s.dropArrived rest).link = s.link := rfl
@[simp] theorem State.dropArrived_freeDraws (s : State) (rest : List (List Byte)) :
    (s.dropArrived rest).freeDraws = s.freeDraws :=
    rfl
@[simp] theorem State.dropArrived_pending (s : State) (rest : List (List Byte)) : (s.dropArrived rest).pending = s.pending :=
    rfl

@[simp] theorem State.setBank_gaits (s : State) (n : Nat) (b : Bank) : (s.setBank n b).gaits = s.gaits := rfl
@[simp] theorem State.setBank_engine (s : State) (n : Nat) (b : Bank) : (s.setBank n b).engine = s.engine := rfl
@[simp] theorem State.setBank_monitor (s : State) (n : Nat) (b : Bank) : (s.setBank n b).monitor = s.monitor := rfl
@[simp] theorem State.setBank_balance (s : State) (n : Nat) (b : Bank) : (s.setBank n b).balance = s.balance := rfl
@[simp] theorem State.setBank_arbiter (s : State) (n : Nat) (b : Bank) : (s.setBank n b).arbiter = s.arbiter := rfl
@[simp] theorem State.setBank_unit (s : State) (n : Nat) (b : Bank) : (s.setBank n b).unit = s.unit := rfl
@[simp] theorem State.setBank_shaper (s : State) (n : Nat) (b : Bank) : (s.setBank n b).shaper = s.shaper := rfl
@[simp] theorem State.setBank_limits (s : State) (n : Nat) (b : Bank) : (s.setBank n b).limits = s.limits := rfl
@[simp] theorem State.setBank_ring (s : State) (n : Nat) (b : Bank) : (s.setBank n b).ring = s.ring := rfl
@[simp] theorem State.setBank_sup (s : State) (n : Nat) (b : Bank) : (s.setBank n b).sup = s.sup := rfl
@[simp] theorem State.setBank_link (s : State) (n : Nat) (b : Bank) : (s.setBank n b).link = s.link := rfl
@[simp] theorem State.setBank_wires (s : State) (n : Nat) (b : Bank) : (s.setBank n b).wires = s.wires := rfl
@[simp] theorem State.setBank_freeDraws (s : State) (n : Nat) (b : Bank) : (s.setBank n b).freeDraws = s.freeDraws := rfl
@[simp] theorem State.setBank_pending (s : State) (n : Nat) (b : Bank) : (s.setBank n b).pending = s.pending := rfl

@[simp] theorem State.setGait_banks (s : State) (n : Nat) (g : Option Gait) : (s.setGait n g).banks = s.banks := rfl
@[simp] theorem State.setGait_engine (s : State) (n : Nat) (g : Option Gait) : (s.setGait n g).engine = s.engine := rfl
@[simp] theorem State.setGait_monitor (s : State) (n : Nat) (g : Option Gait) : (s.setGait n g).monitor = s.monitor := rfl
@[simp] theorem State.setGait_balance (s : State) (n : Nat) (g : Option Gait) : (s.setGait n g).balance = s.balance := rfl
@[simp] theorem State.setGait_arbiter (s : State) (n : Nat) (g : Option Gait) : (s.setGait n g).arbiter = s.arbiter := rfl
@[simp] theorem State.setGait_unit (s : State) (n : Nat) (g : Option Gait) : (s.setGait n g).unit = s.unit := rfl
@[simp] theorem State.setGait_shaper (s : State) (n : Nat) (g : Option Gait) : (s.setGait n g).shaper = s.shaper := rfl
@[simp] theorem State.setGait_limits (s : State) (n : Nat) (g : Option Gait) : (s.setGait n g).limits = s.limits := rfl
@[simp] theorem State.setGait_ring (s : State) (n : Nat) (g : Option Gait) : (s.setGait n g).ring = s.ring := rfl
@[simp] theorem State.setGait_sup (s : State) (n : Nat) (g : Option Gait) : (s.setGait n g).sup = s.sup := rfl
@[simp] theorem State.setGait_link (s : State) (n : Nat) (g : Option Gait) : (s.setGait n g).link = s.link := rfl
@[simp] theorem State.setGait_wires (s : State) (n : Nat) (g : Option Gait) : (s.setGait n g).wires = s.wires := rfl
@[simp] theorem State.setGait_freeDraws (s : State) (n : Nat) (g : Option Gait) : (s.setGait n g).freeDraws = s.freeDraws :=
    rfl
@[simp] theorem State.setGait_pending (s : State) (n : Nat) (g : Option Gait) : (s.setGait n g).pending = s.pending := rfl

@[simp] theorem State.reply_banks (s : State) (f : CmdFrame) (code : ReplyCode) (data : List Byte) :
    (s.reply f code data).banks = s.banks :=
    rfl
@[simp] theorem State.reply_gaits (s : State) (f : CmdFrame) (code : ReplyCode) (data : List Byte) :
    (s.reply f code data).gaits = s.gaits :=
    rfl
@[simp] theorem State.reply_engine (s : State) (f : CmdFrame) (code : ReplyCode) (data : List Byte) :
    (s.reply f code data).engine = s.engine :=
    rfl
@[simp] theorem State.reply_monitor (s : State) (f : CmdFrame) (code : ReplyCode) (data : List Byte) :
    (s.reply f code data).monitor = s.monitor :=
    rfl
@[simp] theorem State.reply_balance (s : State) (f : CmdFrame) (code : ReplyCode) (data : List Byte) :
    (s.reply f code data).balance = s.balance :=
    rfl
@[simp] theorem State.reply_arbiter (s : State) (f : CmdFrame) (code : ReplyCode) (data : List Byte) :
    (s.reply f code data).arbiter = s.arbiter :=
    rfl
@[simp] theorem State.reply_unit (s : State) (f : CmdFrame) (code : ReplyCode) (data : List Byte) :
    (s.reply f code data).unit = s.unit :=
    rfl
@[simp] theorem State.reply_shaper (s : State) (f : CmdFrame) (code : ReplyCode) (data : List Byte) :
    (s.reply f code data).shaper = s.shaper :=
    rfl
@[simp] theorem State.reply_limits (s : State) (f : CmdFrame) (code : ReplyCode) (data : List Byte) :
    (s.reply f code data).limits = s.limits :=
    rfl
@[simp] theorem State.reply_ring (s : State) (f : CmdFrame) (code : ReplyCode) (data : List Byte) :
    (s.reply f code data).ring = s.ring :=
    rfl
@[simp] theorem State.reply_sup (s : State) (f : CmdFrame) (code : ReplyCode) (data : List Byte) :
    (s.reply f code data).sup = s.sup :=
    rfl
@[simp] theorem State.reply_wires (s : State) (f : CmdFrame) (code : ReplyCode) (data : List Byte) :
    (s.reply f code data).wires = s.wires :=
    rfl
@[simp] theorem State.reply_freeDraws (s : State) (f : CmdFrame) (code : ReplyCode) (data : List Byte) :
    (s.reply f code data).freeDraws = s.freeDraws :=
    rfl
@[simp] theorem State.reply_pending (s : State) (f : CmdFrame) (code : ReplyCode) (data : List Byte) :
    (s.reply f code data).pending = s.pending :=
    rfl

@[simp] theorem State.refuse_banks (s : State) (f : CmdFrame) (code : ReplyCode) : (s.refuse f code).banks = s.banks := rfl
@[simp] theorem State.refuse_gaits (s : State) (f : CmdFrame) (code : ReplyCode) : (s.refuse f code).gaits = s.gaits := rfl
@[simp] theorem State.refuse_engine (s : State) (f : CmdFrame) (code : ReplyCode) : (s.refuse f code).engine = s.engine :=
    rfl
@[simp] theorem State.refuse_monitor (s : State) (f : CmdFrame) (code : ReplyCode) : (s.refuse f code).monitor = s.monitor :=
    rfl
@[simp] theorem State.refuse_balance (s : State) (f : CmdFrame) (code : ReplyCode) : (s.refuse f code).balance = s.balance :=
    rfl
@[simp] theorem State.refuse_arbiter (s : State) (f : CmdFrame) (code : ReplyCode) : (s.refuse f code).arbiter = s.arbiter :=
    rfl
@[simp] theorem State.refuse_unit (s : State) (f : CmdFrame) (code : ReplyCode) : (s.refuse f code).unit = s.unit := rfl
@[simp] theorem State.refuse_shaper (s : State) (f : CmdFrame) (code : ReplyCode) : (s.refuse f code).shaper = s.shaper :=
    rfl
@[simp] theorem State.refuse_limits (s : State) (f : CmdFrame) (code : ReplyCode) : (s.refuse f code).limits = s.limits :=
    rfl
@[simp] theorem State.refuse_ring (s : State) (f : CmdFrame) (code : ReplyCode) : (s.refuse f code).ring = s.ring := rfl
@[simp] theorem State.refuse_sup (s : State) (f : CmdFrame) (code : ReplyCode) : (s.refuse f code).sup = s.sup := rfl
@[simp] theorem State.refuse_wires (s : State) (f : CmdFrame) (code : ReplyCode) : (s.refuse f code).wires = s.wires := rfl
@[simp] theorem State.refuse_freeDraws (s : State) (f : CmdFrame) (code : ReplyCode) :
    (s.refuse f code).freeDraws = s.freeDraws :=
    rfl
@[simp] theorem State.refuse_pending (s : State) (f : CmdFrame) (code : ReplyCode) : (s.refuse f code).pending = s.pending :=
    rfl

@[simp] theorem State.countReturn_banks (s : State) : (s.countReturn).banks = s.banks := rfl
@[simp] theorem State.countReturn_gaits (s : State) : (s.countReturn).gaits = s.gaits := rfl
@[simp] theorem State.countReturn_monitor (s : State) : (s.countReturn).monitor = s.monitor := rfl
@[simp] theorem State.countReturn_balance (s : State) : (s.countReturn).balance = s.balance := rfl
@[simp] theorem State.countReturn_arbiter (s : State) : (s.countReturn).arbiter = s.arbiter := rfl
@[simp] theorem State.countReturn_unit (s : State) : (s.countReturn).unit = s.unit := rfl
@[simp] theorem State.countReturn_shaper (s : State) : (s.countReturn).shaper = s.shaper := rfl
@[simp] theorem State.countReturn_limits (s : State) : (s.countReturn).limits = s.limits := rfl
@[simp] theorem State.countReturn_ring (s : State) : (s.countReturn).ring = s.ring := rfl
@[simp] theorem State.countReturn_sup (s : State) : (s.countReturn).sup = s.sup := rfl
@[simp] theorem State.countReturn_link (s : State) : (s.countReturn).link = s.link := rfl
@[simp] theorem State.countReturn_wires (s : State) : (s.countReturn).wires = s.wires := rfl
@[simp] theorem State.countReturn_freeDraws (s : State) : (s.countReturn).freeDraws = s.freeDraws := rfl
@[simp] theorem State.countReturn_pending (s : State) : (s.countReturn).pending = s.pending := rfl

@[simp] theorem State.countStride_banks (s : State) : (s.countStride).banks = s.banks := rfl
@[simp] theorem State.countStride_gaits (s : State) : (s.countStride).gaits = s.gaits := rfl
@[simp] theorem State.countStride_monitor (s : State) : (s.countStride).monitor = s.monitor := rfl
@[simp] theorem State.countStride_balance (s : State) : (s.countStride).balance = s.balance := rfl
@[simp] theorem State.countStride_arbiter (s : State) : (s.countStride).arbiter = s.arbiter := rfl
@[simp] theorem State.countStride_unit (s : State) : (s.countStride).unit = s.unit := rfl
@[simp] theorem State.countStride_shaper (s : State) : (s.countStride).shaper = s.shaper := rfl
@[simp] theorem State.countStride_limits (s : State) : (s.countStride).limits = s.limits := rfl
@[simp] theorem State.countStride_ring (s : State) : (s.countStride).ring = s.ring := rfl
@[simp] theorem State.countStride_sup (s : State) : (s.countStride).sup = s.sup := rfl
@[simp] theorem State.countStride_link (s : State) : (s.countStride).link = s.link := rfl
@[simp] theorem State.countStride_wires (s : State) : (s.countStride).wires = s.wires := rfl
@[simp] theorem State.countStride_freeDraws (s : State) : (s.countStride).freeDraws = s.freeDraws := rfl
@[simp] theorem State.countStride_pending (s : State) : (s.countStride).pending = s.pending := rfl

@[simp] theorem State.raiseLinkLoss_banks (s : State) : (s.raiseLinkLoss).banks = s.banks := rfl
@[simp] theorem State.raiseLinkLoss_gaits (s : State) : (s.raiseLinkLoss).gaits = s.gaits := rfl
@[simp] theorem State.raiseLinkLoss_monitor (s : State) : (s.raiseLinkLoss).monitor = s.monitor := rfl
@[simp] theorem State.raiseLinkLoss_balance (s : State) : (s.raiseLinkLoss).balance = s.balance := rfl
@[simp] theorem State.raiseLinkLoss_arbiter (s : State) : (s.raiseLinkLoss).arbiter = s.arbiter := rfl
@[simp] theorem State.raiseLinkLoss_unit (s : State) : (s.raiseLinkLoss).unit = s.unit := rfl
@[simp] theorem State.raiseLinkLoss_shaper (s : State) : (s.raiseLinkLoss).shaper = s.shaper := rfl
@[simp] theorem State.raiseLinkLoss_limits (s : State) : (s.raiseLinkLoss).limits = s.limits := rfl
@[simp] theorem State.raiseLinkLoss_ring (s : State) : (s.raiseLinkLoss).ring = s.ring := rfl
@[simp] theorem State.raiseLinkLoss_sup (s : State) : (s.raiseLinkLoss).sup = s.sup := rfl
@[simp] theorem State.raiseLinkLoss_link (s : State) : (s.raiseLinkLoss).link = s.link := rfl
@[simp] theorem State.raiseLinkLoss_pending (s : State) : (s.raiseLinkLoss).pending = s.pending := rfl

@[simp] theorem State.setSource_banks (s : State) (src : Source) (x : SourceSettings) : (s.setSource src x).banks = s.banks :=
    rfl
@[simp] theorem State.setSource_gaits (s : State) (src : Source) (x : SourceSettings) : (s.setSource src x).gaits = s.gaits :=
    rfl
@[simp] theorem State.setSource_engine (s : State) (src : Source) (x : SourceSettings) :
    (s.setSource src x).engine = s.engine :=
    rfl
@[simp] theorem State.setSource_monitor (s : State) (src : Source) (x : SourceSettings) :
    (s.setSource src x).monitor = s.monitor :=
    rfl
@[simp] theorem State.setSource_balance (s : State) (src : Source) (x : SourceSettings) :
    (s.setSource src x).balance = s.balance :=
    rfl
@[simp] theorem State.setSource_unit (s : State) (src : Source) (x : SourceSettings) : (s.setSource src x).unit = s.unit :=
    rfl
@[simp] theorem State.setSource_shaper (s : State) (src : Source) (x : SourceSettings) :
    (s.setSource src x).shaper = s.shaper :=
    rfl
@[simp] theorem State.setSource_limits (s : State) (src : Source) (x : SourceSettings) :
    (s.setSource src x).limits = s.limits :=
    rfl
@[simp] theorem State.setSource_ring (s : State) (src : Source) (x : SourceSettings) : (s.setSource src x).ring = s.ring :=
    rfl
@[simp] theorem State.setSource_sup (s : State) (src : Source) (x : SourceSettings) : (s.setSource src x).sup = s.sup := rfl
@[simp] theorem State.setSource_link (s : State) (src : Source) (x : SourceSettings) : (s.setSource src x).link = s.link :=
    rfl
@[simp] theorem State.setSource_wires (s : State) (src : Source) (x : SourceSettings) : (s.setSource src x).wires = s.wires :=
    rfl
@[simp] theorem State.setSource_freeDraws (s : State) (src : Source) (x : SourceSettings) :
    (s.setSource src x).freeDraws = s.freeDraws :=
    rfl
@[simp] theorem State.setSource_pending (s : State) (src : Source) (x : SourceSettings) :
    (s.setSource src x).pending = s.pending :=
    rfl

@[simp] theorem State.statusSent_banks (s : State) (i : StatusImage) : (s.statusSent i).banks = s.banks := rfl
@[simp] theorem State.statusSent_gaits (s : State) (i : StatusImage) : (s.statusSent i).gaits = s.gaits := rfl
@[simp] theorem State.statusSent_engine (s : State) (i : StatusImage) : (s.statusSent i).engine = s.engine := rfl
@[simp] theorem State.statusSent_monitor (s : State) (i : StatusImage) : (s.statusSent i).monitor = s.monitor := rfl
@[simp] theorem State.statusSent_balance (s : State) (i : StatusImage) : (s.statusSent i).balance = s.balance := rfl
@[simp] theorem State.statusSent_arbiter (s : State) (i : StatusImage) : (s.statusSent i).arbiter = s.arbiter := rfl
@[simp] theorem State.statusSent_unit (s : State) (i : StatusImage) : (s.statusSent i).unit = s.unit := rfl
@[simp] theorem State.statusSent_shaper (s : State) (i : StatusImage) : (s.statusSent i).shaper = s.shaper := rfl
@[simp] theorem State.statusSent_limits (s : State) (i : StatusImage) : (s.statusSent i).limits = s.limits := rfl
@[simp] theorem State.statusSent_ring (s : State) (i : StatusImage) : (s.statusSent i).ring = s.ring := rfl
@[simp] theorem State.statusSent_wires (s : State) (i : StatusImage) : (s.statusSent i).wires = s.wires := rfl
@[simp] theorem State.statusSent_freeDraws (s : State) (i : StatusImage) : (s.statusSent i).freeDraws = s.freeDraws := rfl
@[simp] theorem State.statusSent_pending (s : State) (i : StatusImage) : (s.statusSent i).pending = s.pending := rfl

@[simp] theorem State.softReset_banks (s : State) : (s.softReset).banks = s.banks := rfl
@[simp] theorem State.softReset_gaits (s : State) : (s.softReset).gaits = s.gaits := rfl
@[simp] theorem State.softReset_limits (s : State) : (s.softReset).limits = s.limits := rfl
@[simp] theorem State.softReset_wires (s : State) : (s.softReset).wires = s.wires := rfl
@[simp] theorem State.softReset_freeDraws (s : State) : (s.softReset).freeDraws = s.freeDraws := rfl
@[simp] theorem State.softReset_pending (s : State) : (s.softReset).pending = s.pending := rfl

@[simp] theorem State.safeBlocks_banks (s : State) (p : Posture) : (s.safeBlocks p).banks = s.banks := rfl
@[simp] theorem State.safeBlocks_gaits (s : State) (p : Posture) : (s.safeBlocks p).gaits = s.gaits := rfl
@[simp] theorem State.safeBlocks_balance (s : State) (p : Posture) : (s.safeBlocks p).balance = s.balance := rfl
@[simp] theorem State.safeBlocks_shaper (s : State) (p : Posture) : (s.safeBlocks p).shaper = s.shaper := rfl
@[simp] theorem State.safeBlocks_limits (s : State) (p : Posture) : (s.safeBlocks p).limits = s.limits := rfl
@[simp] theorem State.safeBlocks_ring (s : State) (p : Posture) : (s.safeBlocks p).ring = s.ring := rfl
@[simp] theorem State.safeBlocks_link (s : State) (p : Posture) : (s.safeBlocks p).link = s.link := rfl
@[simp] theorem State.safeBlocks_wires (s : State) (p : Posture) : (s.safeBlocks p).wires = s.wires := rfl
@[simp] theorem State.safeBlocks_freeDraws (s : State) (p : Posture) : (s.safeBlocks p).freeDraws = s.freeDraws := rfl
@[simp] theorem State.safeBlocks_pending (s : State) (p : Posture) : (s.safeBlocks p).pending = s.pending := rfl

@[simp] theorem State.startStanding_banks (s : State) : (s.startStanding).banks = s.banks := rfl
@[simp] theorem State.startStanding_gaits (s : State) : (s.startStanding).gaits = s.gaits := rfl
@[simp] theorem State.startStanding_arbiter (s : State) : (s.startStanding).arbiter = s.arbiter := rfl
@[simp] theorem State.startStanding_limits (s : State) : (s.startStanding).limits = s.limits := rfl
@[simp] theorem State.startStanding_ring (s : State) : (s.startStanding).ring = s.ring := rfl
@[simp] theorem State.startStanding_wires (s : State) : (s.startStanding).wires = s.wires := rfl
@[simp] theorem State.startStanding_freeDraws (s : State) : (s.startStanding).freeDraws = s.freeDraws := rfl
@[simp] theorem State.startStanding_pending (s : State) : (s.startStanding).pending = s.pending := rfl

/-! ## The fields that are changed, where the new value is short -/

@[simp] theorem State.alertAt_link (s : State) (tag : Byte) (kind : AlertKind) (key : Key) (detail : Detail) (value : Int) :
    (s.alertAt tag kind key detail value).link
      = s.link.post { kind := kind, key := key, detail := detail, tag := tag, value := value, repeats := 0 } := rfl
@[simp] theorem State.alert_link (s : State) (kind : AlertKind) (key : Key) (detail : Detail) (value : Int) :
    (s.alert kind key detail value).link
      = s.link.post { kind := kind, key := key, detail := detail, tag := s.ring.tag, value := value, repeats := 0 } := rfl
@[simp] theorem State.alertState_link (s : State) (entered left : OpState) (posture : Option Posture) :
    (s.alertState entered left posture).link
      = s.link.post { kind := .stateChange, key := .none, detail := .state entered posture, tag := s.ring.tag
                      value := opCode left, repeats := 0 } := rfl
@[simp] theorem State.alertDone_link (s : State) (o : EndOutcome) (e : Entry) :
    (s.alertDone o e).link
      = s.link.post { kind := .reflexDone, key := .line e.line, detail := .outcome o, tag := s.ring.tag
                      value := e.progress, repeats := 0 } := rfl
@[simp] theorem State.sendRaise_wires (s : State) (line : Nat) (value : Int) :
    (s.sendRaise line value).wires
      = { s.wires with raises := s.wires.raises ++ [{ line := line, value := value, tag := s.ring.tag }] } := rfl
@[simp] theorem State.askStop_wires (s : State) :
    s.askStop.wires = { s.wires with stopRequests := s.wires.stopRequests + 1 } := rfl
@[simp] theorem State.askWalk_wires (s : State) :
    s.askWalk.wires = { s.wires with walkRequests := s.wires.walkRequests + 1 } := rfl
@[simp] theorem State.askSafe_wires (s : State) (c : SafeCause) :
    (s.askSafe c).wires = { s.wires with safeRequests := s.wires.safeRequests ++ [c] } := rfl
@[simp] theorem State.finish_unit (s : State) (f : Finish) : (s.finish f).unit = { s.unit with finished := f } := rfl
@[simp] theorem State.setTop_arbiter (s : State) (e : Entry) :
    (s.setTop e).arbiter = { s.arbiter with stack := e :: s.arbiter.stack.tail } := rfl
@[simp] theorem State.setContact_monitor (s : State) (l : LegId) (c : LegContact) :
    (s.setContact l c).monitor = { s.monitor with legs := s.monitor.legs.set l c } := rfl
@[simp] theorem State.mapContacts_settings (s : State) (f : LegId → LegContact → LegContact) :
    (s.mapContacts f).monitor.settings = s.monitor.settings := rfl
@[simp] theorem State.mapContacts_legs (s : State) (f : LegId → LegContact → LegContact) (l : LegId) :
    (s.mapContacts f).monitor.legs.get l = f l (s.monitor.legs.get l) := by cases l <;> rfl
@[simp] theorem State.repark_slots (s : State) (l : LegId) : s.repark.engine.slots.get l = s.reparked l := by
  cases l <;> rfl
@[simp] theorem State.rederive_slots (s : State) (l : LegId) : s.rederive.engine.slots.get l = s.rekept l := by
  cases l <;> rfl
@[simp] theorem State.safeBlocks_stack (s : State) (p : Posture) : (s.safeBlocks p).arbiter.stack = [] := rfl
@[simp] theorem State.safeBlocks_sup (s : State) (p : Posture) :
    (s.safeBlocks p).sup = { s.sup with op := .safe, posture := some p } := rfl
@[simp] theorem State.softReset_op (s : State) : s.softReset.sup.op = .config := rfl
@[simp] theorem State.softReset_resetPending (s : State) : s.softReset.sup.resetPending = false := rfl
@[simp] theorem State.softReset_modes (s : State) (l : LegId) :
    s.softReset.sup.modes.get l = resetMode (s.sup.modes.get l) := by cases l <;> rfl
@[simp] theorem State.startStanding_sup (s : State) :
    s.startStanding.sup = { s.sup with op := .standing, posture := none } := rfl
@[simp] theorem State.reply_busy (s : State) (f : CmdFrame) (code : ReplyCode) (data : List Byte) :
    (s.reply f code data).link.busy = none := rfl
@[simp] theorem State.reply_reserved (s : State) (f : CmdFrame) (code : ReplyCode) (data : List Byte) :
    (s.reply f code data).link.reserved = false := rfl

/-! ## The ring goes DOWN (R142; log 41) -/

@[simp] theorem State.ringDown_banks (s : State) : s.ringDown.banks = s.banks := rfl
@[simp] theorem State.ringDown_gaits (s : State) : s.ringDown.gaits = s.gaits := rfl
@[simp] theorem State.ringDown_engine (s : State) : s.ringDown.engine = s.engine := rfl
@[simp] theorem State.ringDown_monitor (s : State) : s.ringDown.monitor = s.monitor := rfl
@[simp] theorem State.ringDown_balance (s : State) : s.ringDown.balance = s.balance := rfl
@[simp] theorem State.ringDown_arbiter (s : State) : s.ringDown.arbiter = s.arbiter := rfl
@[simp] theorem State.ringDown_unit (s : State) : s.ringDown.unit = s.unit := rfl
@[simp] theorem State.ringDown_shaper (s : State) : s.ringDown.shaper = s.shaper := rfl
@[simp] theorem State.ringDown_limits (s : State) : s.ringDown.limits = s.limits := rfl
@[simp] theorem State.ringDown_sup (s : State) : s.ringDown.sup = s.sup := rfl
@[simp] theorem State.ringDown_link (s : State) : s.ringDown.link = s.link := rfl
@[simp] theorem State.ringDown_freeDraws (s : State) : s.ringDown.freeDraws = s.freeDraws := rfl
@[simp] theorem State.ringDown_pending (s : State) : s.ringDown.pending = s.pending := rfl
@[simp] theorem State.ringDown_ring (s : State) : s.ringDown.ring = { s.ring with up := false, restoration := 0 } := rfl
@[simp] theorem State.ringDown_wires (s : State) :
    s.ringDown.wires = { s.wires.dropReturns with
      raises := s.wires.raises ++ [{ line := 5, value := s.ring.lossCount, tag := s.ring.tag }] } := rfl

@[simp] theorem Wires.dropReturns_bodySlots (w : Wires) : w.dropReturns.bodySlots = [] := rfl
@[simp] theorem Wires.dropReturns_sweepReturns (w : Wires) : w.dropReturns.sweepReturns = [] := rfl
@[simp] theorem Wires.dropReturns_reflexReturns (w : Wires) : w.dropReturns.reflexReturns = 0 := rfl
@[simp] theorem Wires.dropReturns_statusReturns (w : Wires) : w.dropReturns.statusReturns = 0 := rfl
@[simp] theorem Wires.dropReturns_phaseUpdates (w : Wires) : w.dropReturns.phaseUpdates = [] := rfl
@[simp] theorem Wires.dropReturns_legSlots (w : Wires) (l : LegId) : w.dropReturns.legSlots.get l = [] := by cases l <;> rfl
@[simp] theorem Wires.dropReturns_driveStatus (w : Wires) : w.dropReturns.driveStatus = w.driveStatus := rfl
@[simp] theorem Wires.dropReturns_staleReports (w : Wires) : w.dropReturns.staleReports = w.staleReports := rfl
@[simp] theorem Wires.dropReturns_reports (w : Wires) : w.dropReturns.reports = w.reports := rfl
@[simp] theorem Wires.dropReturns_raises (w : Wires) : w.dropReturns.raises = w.raises := rfl
@[simp] theorem Wires.dropReturns_walkRequests (w : Wires) : w.dropReturns.walkRequests = w.walkRequests := rfl
@[simp] theorem Wires.dropReturns_stopRequests (w : Wires) : w.dropReturns.stopRequests = w.stopRequests := rfl
@[simp] theorem Wires.dropReturns_safeRequests (w : Wires) : w.dropReturns.safeRequests = w.safeRequests := rfl
@[simp] theorem Wires.dropReturns_allParked (w : Wires) : w.dropReturns.allParked = w.allParked := rfl
@[simp] theorem Wires.dropReturns_arrived (w : Wires) : w.dropReturns.arrived = w.arrived := rfl

end Sys2Proof.Machine
end

