-- ==== Sys2Proof/Laws/Ops.lean ====
section
/-!
SUPPORT. For the shared operations of Machine/Ops.lean, once each: the cases an operation can take, and that none of them touches
the tables, the settings, the ring's course, the sweep returns still waiting, the link's queues of frames and replies, or the model's
own queue.
-/

namespace Sys2Proof.Machine

/-! ## What no shared operation touches -/

/-- The second state holds what the first holds in every table and setting, in the ring's course, in the sweep returns that wait
for the blocks, in the link outside its alerts and status count, and in the model's own queue and count. -/
structure KeepsTables (s t : State) : Prop where
  banks     : t.banks = s.banks
  gaits     : t.gaits = s.gaits
  limits    : t.limits = s.limits
  freeDraws : t.freeDraws = s.freeDraws
  pending   : t.pending = s.pending
  walk      : t.engine.walk = s.engine.walk
  contact   : t.monitor.settings = s.monitor.settings
  bands     : t.balance.bands = s.balance.bands
  sources   : t.arbiter.sources = s.arbiter.sources
  nesting   : t.arbiter.nesting = s.arbiter.nesting
  crouch    : t.arbiter.fallCrouch = s.arbiter.fallCrouch
  period    : t.ring.period = s.ring.period
  legMap    : t.ring.legMap = s.ring.legMap
  up        : t.ring.up = s.ring.up
  tag       : t.ring.tag = s.ring.tag
  inFlight  : t.ring.inFlight = s.ring.inFlight
  legSlots  : t.wires.legSlots = s.wires.legSlots
  bodySlots : t.wires.bodySlots = s.wires.bodySlots
  returns   : t.wires.sweepReturns = s.wires.sweepReturns
  reflex    : t.wires.reflexReturns = s.wires.reflexReturns
  status    : t.wires.statusReturns = s.wires.statusReturns
  updates   : t.wires.phaseUpdates = s.wires.phaseUpdates
  rx        : t.link.rx = s.link.rx
  inbox     : t.link.inbox = s.link.inbox
  replies   : t.link.replies = s.link.replies
  reserved  : t.link.reserved = s.link.reserved
  statusBuf : t.link.statusBuf = s.link.statusBuf
  interval  : t.link.interval = s.link.interval
  sending   : t.link.sending = s.link.sending
  busy      : t.link.busy = s.link.busy

theorem KeepsTables.refl (s : State) : KeepsTables s s := by constructor <;> rfl

theorem KeepsTables.trans {s t u : State} (h : KeepsTables s t) (k : KeepsTables t u) : KeepsTables s u where
  banks := k.banks.trans h.banks
  gaits := k.gaits.trans h.gaits
  limits := k.limits.trans h.limits
  freeDraws := k.freeDraws.trans h.freeDraws
  pending := k.pending.trans h.pending
  walk := k.walk.trans h.walk
  contact := k.contact.trans h.contact
  bands := k.bands.trans h.bands
  sources := k.sources.trans h.sources
  nesting := k.nesting.trans h.nesting
  crouch := k.crouch.trans h.crouch
  period := k.period.trans h.period
  legMap := k.legMap.trans h.legMap
  up := k.up.trans h.up
  tag := k.tag.trans h.tag
  inFlight := k.inFlight.trans h.inFlight
  legSlots := k.legSlots.trans h.legSlots
  bodySlots := k.bodySlots.trans h.bodySlots
  returns := k.returns.trans h.returns
  reflex := k.reflex.trans h.reflex
  status := k.status.trans h.status
  updates := k.updates.trans h.updates
  rx := k.rx.trans h.rx
  inbox := k.inbox.trans h.inbox
  replies := k.replies.trans h.replies
  reserved := k.reserved.trans h.reserved
  statusBuf := k.statusBuf.trans h.statusBuf
  interval := k.interval.trans h.interval
  sending := k.sending.trans h.sending
  busy := k.busy.trans h.busy

/-! ## Alerts -/

/-- A post changes the alerts, the mark and the count of dropped alerts, and nothing else of the link. -/
theorem Link.post_fields (k : Link) (a : AlertEntry) :
    k.post a = { k with
      alerts := (k.post a).alerts, alertsDropped := (k.post a).alertsDropped, dropEpoch := (k.post a).dropEpoch } := by
  unfold Link.post; split
  · rfl
  · split <;> rfl

@[simp] theorem Link.post_rx (k : Link) (a : AlertEntry) : (k.post a).rx = k.rx := by rw [Link.post_fields]
@[simp] theorem Link.post_inbox (k : Link) (a : AlertEntry) : (k.post a).inbox = k.inbox := by rw [Link.post_fields]
@[simp] theorem Link.post_replies (k : Link) (a : AlertEntry) : (k.post a).replies = k.replies := by rw [Link.post_fields]
@[simp] theorem Link.post_reserved (k : Link) (a : AlertEntry) : (k.post a).reserved = k.reserved := by rw [Link.post_fields]
@[simp] theorem Link.post_statusBuf (k : Link) (a : AlertEntry) : (k.post a).statusBuf = k.statusBuf := by
  rw [Link.post_fields]
@[simp] theorem Link.post_interval (k : Link) (a : AlertEntry) : (k.post a).interval = k.interval := by rw [Link.post_fields]
@[simp] theorem Link.post_statusCount (k : Link) (a : AlertEntry) : (k.post a).statusCount = k.statusCount := by
  rw [Link.post_fields]
@[simp] theorem Link.post_sending (k : Link) (a : AlertEntry) : (k.post a).sending = k.sending := by rw [Link.post_fields]
@[simp] theorem Link.post_busy (k : Link) (a : AlertEntry) : (k.post a).busy = k.busy := by rw [Link.post_fields]

/-- Posting an alert and setting the status count commute. -/
theorem Link.post_setStatusCount (k : Link) (a : AlertEntry) (n : Nat) :
    ({ k with statusCount := n } : Link).post a = { k.post a with statusCount := n } := by
  unfold Link.post; dsimp only; split
  · rfl
  · split <;> rfl

/-- Two alerts are the same for a merge when their kinds and keys are equal. -/
@[simp] theorem sameAlert_iff (a b : AlertEntry) : sameAlert a b = true ↔ a.kind = b.kind ∧ a.key = b.key := by
  simp [sameAlert]

/-- A posted alert never lengthens the queue by more than one, nor beyond its sixteen entries. -/
theorem Link.post_length (k : Link) (a : AlertEntry) (h : k.alerts.length ≤ 16) :
    (k.post a).alerts.length ≤ 16 ∧ (k.post a).alerts.length ≤ k.alerts.length + 1 := by
  unfold Link.post; split
  · simp; omega
  · split
    · rename_i h2; simp [Config.alertSize] at h2 ⊢; omega
    · simp; omega

theorem keeps_alertAt (s : State) (tag : Byte) (kind : AlertKind) (key : Key) (detail : Detail) (value : Int) :
    KeepsTables s (s.alertAt tag kind key detail value) := by constructor <;> simp

theorem keeps_alert (s : State) (kind : AlertKind) (key : Key) (detail : Detail) (value : Int) :
    KeepsTables s (s.alert kind key detail value) := keeps_alertAt ..

theorem keeps_alertDone (s : State) (o : EndOutcome) (e : Entry) : KeepsTables s (s.alertDone o e) := keeps_alert ..

theorem keeps_alertState (s : State) (entered left : OpState) (p : Option Posture) :
    KeepsTables s (s.alertState entered left p) := keeps_alert ..

/-- A fold of steps that keep the tables keeps them. -/
theorem keeps_foldl {α : Type} (f : State → α → State) (h : ∀ s a, KeepsTables s (f s a)) (l : List α) (s : State) :
    KeepsTables s (l.foldl f s) := by
  induction l generalizing s with
  | nil => exact .refl s
  | cons a l ih => exact (h s a).trans (ih _)

/-! ## Slots, captures and modes -/

theorem keeps_repark (s : State) : KeepsTables s s.repark := by constructor <;> rfl
theorem keeps_rederive (s : State) : KeepsTables s s.rederive := by constructor <;> rfl
theorem keeps_reclampRate (s : State) : KeepsTables s s.reclampRate := by constructor <;> rfl

/-- In STOPPING with every playing slot parked the report is made; else nothing changes (R38). -/
theorem reportParked_cases (s : State) :
    s.reportParked = s
    ∨ (s.sup.op = .stopping ∧ s.everyPlayingParked = true
        ∧ s.reportParked = { s with wires := { s.wires with allParked := true } }) := by
  unfold State.reportParked; split
  · exact .inr ⟨‹_ ∧ _›.1, ‹_ ∧ _›.2, rfl⟩
  · exact .inl rfl

theorem keeps_reportParked (s : State) : KeepsTables s s.reportParked := by
  rcases reportParked_cases s with h | ⟨-, -, h⟩ <;> rw [h] <;> constructor <;> rfl

theorem keeps_changeMode (s : State) (l : LegId) (m : Mode) (n : Nat) : KeepsTables s (s.changeMode l m n) := by
  unfold State.changeMode
  refine KeepsTables.trans ?_ (keeps_reportParked _)
  refine KeepsTables.trans ?_ (keeps_reclampRate _)
  split <;> constructor <;> rfl

/-! ## The relevel capture -/

theorem abortRelevel_none (s : State) (h : s.balance.relevel = none) : s.abortRelevel = s := by
  unfold State.abortRelevel; rw [h]

theorem abortRelevel_some (s : State) (r : Relevel) (h : s.balance.relevel = some r) :
    s.abortRelevel
      = ({ s with balance := { s.balance with relevel := none } } : State).alert .relevelAborted .none .none r.taken := by
  unfold State.abortRelevel; rw [h]

/-- After it no capture is in progress. -/
@[simp] theorem abortRelevel_relevel (s : State) : s.abortRelevel.balance.relevel = none := by
  unfold State.abortRelevel; split
  · rfl
  · assumption

theorem keeps_abortRelevel (s : State) : KeepsTables s s.abortRelevel := by
  unfold State.abortRelevel; split
  · exact KeepsTables.trans (t := { s with balance := { s.balance with relevel := none } }) (by constructor <;> rfl)
      (keeps_alert ..)
  · exact .refl s

/-- It leaves the operating state and the arbiter as they were. -/
@[simp] theorem abortRelevel_sup (s : State) : s.abortRelevel.sup = s.sup := by unfold State.abortRelevel; split <;> rfl
@[simp] theorem abortRelevel_arbiter (s : State) : s.abortRelevel.arbiter = s.arbiter := by
  unfold State.abortRelevel; split <;> rfl
@[simp] theorem abortRelevel_unit (s : State) : s.abortRelevel.unit = s.unit := by unfold State.abortRelevel; split <;> rfl
@[simp] theorem abortRelevel_engine (s : State) : s.abortRelevel.engine = s.engine := by
  unfold State.abortRelevel; split <;> rfl
@[simp] theorem abortRelevel_monitor (s : State) : s.abortRelevel.monitor = s.monitor := by
  unfold State.abortRelevel; split <;> rfl
@[simp] theorem abortRelevel_shaper (s : State) : s.abortRelevel.shaper = s.shaper := by
  unfold State.abortRelevel; split <;> rfl
@[simp] theorem abortRelevel_ring (s : State) : s.abortRelevel.ring = s.ring := by unfold State.abortRelevel; split <;> rfl
@[simp] theorem abortRelevel_wires (s : State) : s.abortRelevel.wires = s.wires := by
  unfold State.abortRelevel; split <;> rfl

/-! ## The soft reset and SAFE -/

theorem keeps_softReset (s : State) : KeepsTables s s.softReset := by constructor <;> rfl

theorem keeps_applyReset (s : State) : KeepsTables s s.applyReset := by
  unfold State.applyReset
  refine KeepsTables.trans ?_ (keeps_alert ..)
  have h := (keeps_foldl (fun t e => t.alertDone .abandoned e) (fun t e => keeps_alertDone t _ e) s.arbiter.stack s).trans
    (keeps_softReset _)
  split
  · exact h
  · exact h.trans (keeps_alertState ..)

/-- After an applied reset the operating state is CONFIG and no reset is pending. -/
theorem applyReset_sup (s : State) : s.applyReset.sup.op = .config ∧ s.applyReset.sup.resetPending = false := by
  unfold State.applyReset
  by_cases h : s.sup.op = .config <;> simp [h]

/-- Entries that end together post their REFLEX-DONE, and change nothing but the link. -/
theorem alertDone_foldl (o : EndOutcome) (l : List Entry) (s : State) :
    l.foldl (fun t e => t.alertDone o e) s
      = { s with link := l.foldl (fun k e => k.post (newAlert .reflexDone (.line e.line) (.outcome o) s.ring.tag e.progress)) s.link } := by
  induction l generalizing s with
  | nil => rfl
  | cons e l ih => rw [List.foldl_cons, ih]; rfl

/-- The alerts of an applied reset (R160). -/
theorem applyReset_link (s : State) :
    s.applyReset.link = ResetAlerts s.link s.ring.tag s.sup.op s.arbiter.stack := by
  unfold State.applyReset ResetAlerts
  rw [alertDone_foldl]
  generalize s.arbiter.stack.foldl _ s.link = k
  split
  · exact Link.post_setStatusCount k _ 0
  · exact (congrArg (Link.post · _) (Link.post_setStatusCount k _ 0)).trans (Link.post_setStatusCount _ _ 0)

theorem keeps_alertEnded (s : State) (r : Option Nat) : KeepsTables s (s.alertEnded r) := by
  unfold State.alertEnded; split
  · exact .refl s
  · exact (keeps_alertDone ..).trans (keeps_foldl _ (fun _ _ => keeps_alertDone ..) _ _)

theorem keeps_safeBlocks (s : State) (p : Posture) : KeepsTables s (s.safeBlocks p) := by constructor <;> rfl

theorem enterSafe_of_not_live (s : State) (p : Posture) (r : Option Nat) (h : s.sup.op.isLive = false) :
    s.enterSafe p r = s := by simp [State.enterSafe, h]

theorem keeps_enterSafe (s : State) (p : Posture) (r : Option Nat) : KeepsTables s (s.enterSafe p r) := by
  unfold State.enterSafe; split
  · have h := (((keeps_alertEnded s r).trans (keeps_safeBlocks _ p)).trans (keeps_alertState _ .safe s.sup.op (some p))).trans
      (keeps_abortRelevel _)
    dsimp only
    split
    · exact h.trans (keeps_applyReset _)
    · exact h
  · exact .refl s

/-! ## The reflex stack -/

theorem keeps_plantLooks (s : State) (e : Entry) : KeepsTables s (s.plantLooks e) := by
  unfold State.plantLooks; split
  · split <;> constructor <;> rfl
  · exact .refl s

theorem keeps_stopAsks (s : State) : KeepsTables s s.stopAsks := by
  unfold State.stopAsks; split <;> constructor <;> rfl

theorem keeps_startAction (s : State) (e : Entry) : KeepsTables s (s.startAction e) := by
  unfold State.startAction; split
  · exact .refl s
  · exact .refl s
  · constructor <;> rfl
  · exact keeps_plantLooks s e
  · exact keeps_stopAsks s
  · constructor <;> rfl
  · exact keeps_enterSafe ..

theorem keeps_resumeAction (s : State) (e : Entry) : KeepsTables s (s.resumeAction e) := by
  unfold State.resumeAction; split
  all_goals first | exact keeps_plantLooks s e | exact keeps_stopAsks s | exact .refl s

theorem keeps_shed (s : State) : KeepsTables s s.shed := by
  unfold State.shed; split
  · exact .refl s
  · split
    · rename_i e _
      exact KeepsTables.trans (t := { s with
        arbiter := { s.arbiter with stack := s.arbiter.stack.dropLast }
        unit := { s.unit with reachHold := settle s.unit.reachHold e, finished := .clear } }) (by constructor <;> rfl)
        (keeps_alertDone ..)
    · exact .refl s

theorem keeps_push (s : State) (line : Nat) : KeepsTables s (s.push line) := by
  unfold State.push
  refine KeepsTables.trans ?_ (keeps_startAction ..)
  refine KeepsTables.trans ?_ (keeps_alert ..)
  exact (keeps_shed s).trans (by constructor <;> rfl)

theorem keeps_take (s : State) (line : Nat) : KeepsTables s (s.take line) := by
  have h : KeepsTables s { s with arbiter := { s.arbiter with
      pending := s.arbiter.pending &&& ~~~(BitVec.twoPow 32 line) } } := by constructor <;> rfl
  unfold State.take; dsimp only; split
  · exact (h.trans (keeps_alert ..)).trans (keeps_alert ..)
  · exact h.trans (keeps_push ..)

/-- What holds before a re-examination and is kept by every taking it can make holds after it (R90, R91). -/
theorem reexamineN_induct (P : State → Prop)
    (h : ∀ s c, s.sup.op.isLive = true → s.arbiter.candidate = some c → s.arbiter.passes c = true → P s → P (s.take c))
    (n : Nat) (s : State) (hs : P s) : P (State.reexamineN n s) := by
  induction n generalizing s with
  | zero => exact hs
  | succ n ih =>
    unfold State.reexamineN
    split
    · split
      · split
        · exact ih _ (h _ _ ‹_› ‹_› ‹_› hs)
        · exact hs
      · exact hs
    · exact hs

theorem reexamine_induct (P : State → Prop)
    (h : ∀ s c, s.sup.op.isLive = true → s.arbiter.candidate = some c → s.arbiter.passes c = true → P s → P (s.take c))
    (s : State) (hs : P s) : P s.reexamine := reexamineN_induct P h 32 s hs

/-- With nothing pending there is no candidate. -/
theorem candidate_of_pending_zero (a : Arbiter) (h : a.pending = 0) : a.candidate = none := by
  have hp : ∀ n, a.isPending n = false := fun n => by simp [Arbiter.isPending, h]
  have hf : ∀ (l : List Nat), l.foldl a.better none = none := fun l => by
    induction l with
    | nil => rfl
    | cons n l ih => simp only [List.foldl_cons, Arbiter.better, hp, Bool.false_eq_true, if_false]; exact ih
  exact hf _

/-- A re-examination with nothing pending takes nothing (R90). -/
theorem reexamine_of_pending_zero (s : State) (h : s.arbiter.pending = 0) : s.reexamine = s := by
  unfold State.reexamine State.reexamineN
  rw [candidate_of_pending_zero _ h]; split <;> rfl

/-- A re-examination in CONFIG and SAFE takes nothing (R90). -/
theorem reexamine_of_not_live (s : State) (h : s.sup.op.isLive = false) : s.reexamine = s := by
  unfold State.reexamine State.reexamineN
  simp [h]

theorem keeps_reexamine (s : State) : KeepsTables s s.reexamine :=
  reexamine_induct (KeepsTables s) (fun _ _ _ _ _ h => h.trans (keeps_take ..)) s (.refl s)

theorem keeps_takeRaise (s : State) (r : Raise) : KeepsTables s (s.takeRaise r) := by
  unfold State.takeRaise; dsimp only; split
  · exact ((keeps_alertAt ..).trans (by constructor <;> rfl)).trans (keeps_reexamine _)
  · exact keeps_alertAt ..

theorem keeps_resumeTop (s : State) : KeepsTables s s.resumeTop := by
  unfold State.resumeTop; split
  · exact .refl s
  · exact keeps_resumeAction ..

theorem keeps_popTop (s : State) (o : EndOutcome) : KeepsTables s (s.popTop o) := by
  unfold State.popTop; split
  · exact .refl s
  · refine KeepsTables.trans ?_ (keeps_reexamine _)
    refine KeepsTables.trans ?_ (keeps_resumeTop _)
    refine KeepsTables.trans ?_ (keeps_alertDone ..)
    constructor <;> rfl

/-! ## Changes of operating state -/

theorem keeps_applyPendingStanding (s : State) : KeepsTables s s.applyPendingStanding := by
  unfold State.applyPendingStanding; split
  · exact KeepsTables.trans (by constructor <;> rfl) (keeps_repark _)
  · exact .refl s

theorem keeps_completeStop (s : State) : KeepsTables s s.completeStop := by
  unfold State.completeStop; split
  · split
    · exact keeps_popTop ..
    · exact .refl s
  · exact .refl s

theorem keeps_standFromStopping (s : State) : KeepsTables s s.standFromStopping := by
  unfold State.standFromStopping; dsimp only
  have h := (((show KeepsTables s { s with
      sup := { s.sup with op := .standing }
      engine := { s.engine with rate := 0 }
      wires := { s.wires with allParked := false } } by constructor <;> rfl).trans
    (keeps_alertState _ .standing .stopping none)).trans (keeps_applyPendingStanding _)).trans (keeps_completeStop _)
  split
  · exact h.trans (keeps_applyReset _)
  · exact h

theorem keeps_enterStopping (s : State) : KeepsTables s s.enterStopping := by
  unfold State.enterStopping; dsimp only
  have h := (show KeepsTables s { s with sup := { s.sup with op := .stopping } } by constructor <;> rfl).trans
    (keeps_alertState _ .stopping .walking none)
  split
  · exact (h.trans (by constructor <;> rfl)).trans (keeps_standFromStopping _)
  · exact h.trans (by constructor <;> rfl)

theorem keeps_doStop (s : State) : KeepsTables s s.doStop := by
  unfold State.doStop; split
  · exact keeps_enterStopping s
  · exact .refl s

theorem keeps_enterWalking (s : State) : KeepsTables s s.enterWalking := by
  unfold State.enterWalking; dsimp only
  have h := ((show KeepsTables s { s with sup := { s.sup with op := .walking } } by constructor <;> rfl).trans
    (keeps_alertState _ .walking s.sup.op none)).trans (keeps_abortRelevel _)
  split
  · split
    · exact h.trans (by constructor <;> rfl)
    · exact h
  · exact h

theorem keeps_multiFaultTest (s : State) : KeepsTables s s.multiFaultTest := by
  unfold State.multiFaultTest; split
  · exact keeps_enterSafe ..
  · exact .refl s

theorem keeps_driveFailure (s : State) (l : LegId) (v : Int) (first : Bool) : KeepsTables s (s.driveFailure l v first) := by
  unfold State.driveFailure; split
  · dsimp only
    refine KeepsTables.trans ?_ (keeps_multiFaultTest _)
    split
    · exact (keeps_changeMode ..).trans (keeps_takeRaise ..)
    · exact (keeps_changeMode ..).trans (by constructor <;> rfl)
  · exact (keeps_alert ..).trans (keeps_enterSafe ..)
  · exact keeps_alert ..
  · exact .refl s

theorem keeps_startStanding (s : State) : KeepsTables s s.startStanding := by
  unfold State.startStanding
  exact KeepsTables.trans (KeepsTables.trans (by constructor <;> rfl) (keeps_repark _)) (keeps_alertState ..)

/-! ## Sweep returns that wait (log 41) -/

/-- The returns dropped, none waits. -/
theorem Wires.dropReturns_noReturns (w : Wires) : w.dropReturns.noReturns :=
  ⟨by intro l; cases l <;> rfl, rfl, rfl, rfl, rfl, rfl⟩

/-- As the ring goes DOWN no sweep return is left waiting. -/
theorem State.ringDown_noReturns (s : State) : s.ringDown.wires.noReturns :=
  ⟨by intro l; cases l <;> rfl, rfl, rfl, rfl, rfl, rfl⟩

/-- What keeps the tables keeps the absence of waiting returns. -/
theorem KeepsTables.noReturns {s t : State} (h : KeepsTables s t) (hs : s.wires.noReturns) : t.wires.noReturns := by
  obtain ⟨h1, h2, h3, h4, h5, h6⟩ := hs
  exact ⟨fun l => h.legSlots ▸ h1 l, h.bodySlots ▸ h2, h.returns ▸ h3, h.reflex ▸ h4, h.status ▸ h5, h.updates ▸ h6⟩

/-! ## The completion of a frame -/

/-- With a well-formed frame of the command in progress, the command's body is its completion. -/
theorem completing_of_busy {s : State} {c : Command} {f : CmdFrame} (h : s.busyWith c f) (body : CmdFrame → State) :
    s.completing c body = .next (body f) := by
  simp [State.completing, h.1, h.2]

/-- A completion answers a next state: the body's, or with no frame of the command in progress the state as it was. -/
theorem completing_cases (s : State) (c : Command) (body : CmdFrame → State) :
    (∃ f, s.busyWith c f ∧ s.completing c body = .next (body f)) ∨ s.completing c body = .next s := by
  unfold State.completing; split
  · split
    · exact .inl ⟨_, ⟨‹_›, ‹_›⟩, rfl⟩
    · exact .inr rfl
  · exact .inr rfl

/-- A checked command is refused by its first failing check, or accepted and answered DONE. -/
theorem checked_cases (s : State) (f : CmdFrame) (checks : List (Bool × ReplyCode)) (a : State) :
    (∃ code, firstFailing checks = some code ∧ s.checked f checks a = s.refuse f code)
    ∨ (firstFailing checks = none ∧ s.checked f checks a = a.reply f .done []) := by
  unfold State.checked
  cases h : firstFailing checks with
  | some c => exact .inl ⟨c, rfl, rfl⟩
  | none => exact .inr ⟨rfl, rfl⟩

/-! ## The taking of what waits -/

/-- A leg's slot is taken whole, or nothing happens. -/
theorem takeSlotIf_cases (s : State) (l : LegId) (due : LegSlot → Bool) :
    (∃ slot rest, s.wires.legSlots.get l = slot :: rest ∧ due slot = true
        ∧ s.takeSlotIf l due = .next ((s.dropSlot l rest).takeSlot l slot))
    ∨ s.takeSlotIf l due = .next s := by
  unfold State.takeSlotIf; split
  · exact .inr rfl
  · split
    · exact .inl ⟨_, _, ‹_›, ‹_›, rfl⟩
    · exact .inr rfl

/-- The oldest body slot is taken, by the stale limit it was handed with, or nothing happens. -/
theorem takeBodyIf_cases (s : State) (due : HandedBody → Bool) :
    (∃ b rest, s.wires.bodySlots = b :: rest ∧ due b = true
        ∧ s.takeBodyIf due = .next ((s.dropBody rest).takeBody b)
        ∧ ((∃ r, b.slot = .fresh r ∧ r.valid = true ∧ (s.dropBody rest).takeBody b = (s.dropBody rest).usableBody r)
          ∨ (b.slot.usable = false ∧ (s.dropBody rest).takeBody b = (s.dropBody rest).unusableBody b.staleLimit)))
    ∨ s.takeBodyIf due = .next s := by
  unfold State.takeBodyIf; split
  · exact .inr rfl
  · rename_i b rest h
    split
    · refine .inl ⟨b, rest, h, ‹_›, rfl, ?_⟩
      unfold State.takeBody BodySlot.usable
      cases hb : b.slot with
      | stale => exact .inr ⟨rfl, rfl⟩
      | fresh r => cases hv : r.valid <;> simp [hv]
    · exact .inr rfl

/-- A sweep return is taken by the reflex action unit, or nothing happens. -/
theorem reflexIf_cases (s : State) (due : Bool) :
    (0 < s.wires.reflexReturns ∧ due = true ∧ s.reflexIf due
        = .next (({ s with wires := { s.wires with reflexReturns := s.wires.reflexReturns - 1 } } : State).reflexReturn))
    ∨ s.reflexIf due = .next s := by
  unfold State.reflexIf; split
  · exact .inr rfl
  · split
    · exact .inl ⟨by omega, ‹_›, rfl⟩
    · exact .inr rfl

end Sys2Proof.Machine
end

