-- ==== Sys2Proof/WellFormed.lean ====
section
/-!
DEFINITION. Which commands are well formed: a sweep has the eighty bytes of its five slots (R194), and a reflex line is one of the
32 (R81). Every other operand's type admits only values that exist.
-/

namespace Sys2Proof

/-- A sweep carries five slots of sixteen bytes. -/
def RingFrame.wellFormed (f : RingFrame) : Bool := f.slots.length == 80

/-- A command's operands are ones the block can be given. -/
def Instr.wellFormed : Instr → Bool
  | .ringReturn f => f.wellFormed
  | .ringLoss (some f) => f.wellFormed
  | .ringRestored f => f.wellFormed
  | .raise line => line < 32
  | .ringLoss none => true
  | .powerOn | .sweepIssue | .staleLimit .. | .legRecord .. | .contactChange .. | .slip .. | .overtorque ..
  | .baselineStale .. | .baselineCapture .. | .advanceReport | .bodyRecord | .bodyBlind | .relevelComplete
  | .driveStatus .. | .advance | .linkLoss | .composition | .reflexStep | .holdComplete | .retractComplete
  | .plantFailed | .crouchComplete | .pop | .walkRequest | .stopRequest | .allParked | .safeRequest .. | .quiesceExpiry
  | .strideFrame | .frameDropped | .setupFrame | .setupTake | .openBank | .writePart | .defineGait | .undefineGait
  | .setLimits | .setGains | .setBands | .setContact | .setReflex | .setArbiter | .setTilt | .setLegMode | .setLegMap
  | .setRing | .setWalk | .setStatus | .release | .relevel | .resume | .reset | .clearPending | .readBank | .readPart
  | .readGait | .readTable | .readLeg | .identify | .statusImage | .transmitStart | .frameSent | .linkReset
  | .byteReceived .. | .notWellFormed => true

end Sys2Proof
end

