-- ==== Sys2Proof/Tests/Slice0.lean ====
section
/-!
SUPPORT. Tests: the WellFormed smoke, the worked examples of spec/ (each test's comment names its source), and for every statement
with hypotheses a witness that meets them.
-/

namespace Sys2Proof.Tests
open Sys2Proof.Machine

-- The evaluations run one after another: side by side they take more threads than the memory limit of the check allows.
set_option Elab.async false

/-! ## The WellFormed smoke: ill-formed terms, which the checks refuse -/

/-- A sweep with 79 bytes of slots. -/
def shortFrame : RingFrame := { tag := 1, slots := List.replicate 79 0, crc := 0 }

theorem test_refuses_short_ringReturn : (Instr.ringReturn shortFrame).wellFormed = false := by decide
theorem test_refuses_short_ringLoss : (Instr.ringLoss (some shortFrame)).wellFormed = false := by decide
theorem test_refuses_short_ringRestored : (Instr.ringRestored shortFrame).wellFormed = false := by decide
theorem test_refuses_line_32 : (Instr.raise 32).wellFormed = false := by decide
theorem test_admits_line_31 : (Instr.raise 31).wellFormed = true := by decide

/-! ## The small states of the tests -/

/-- The state a command leaves. -/
def after (c : Instr) (s : State) : State :=
  match exec c s with
  | .next t => t
  | .fault _ | .refused _ => s

/-- Bank 12 of chapter 1's example; its knots are constant, but for HF knots 30 and 31, which chapter 7's first case gives. -/
def bank12 : Profile :=
  { header := { liftoff := 40960, touchdown := 57344, refresh := 45056, scale := ⟨false, true, true⟩
                stanceStiff := 11, swingStiff := 6 }
    knots := ⟨List.replicate 32 0, List.replicate 30 0 ++ [-120, -200], List.replicate 32 0⟩ }

/-- Entry 3 of chapter 1's example. -/
def entry3 : Gait := .quad ⟨⟨12, 0⟩, ⟨12, 32768⟩, ⟨12, 32768⟩, ⟨12, 0⟩⟩

/-- Entry 5 of chapter 1's second example, on bank 12. -/
def entry5 : Gait := .triH ⟨12, 0⟩ ⟨12, 21845⟩ ⟨12, 43690⟩

/-- Entry 6 of chapter 2's second example, on bank 1. -/
def entry6 : Gait := .quad (.all ⟨1, 100⟩)

/-- The limits of every joint of every leg (HF of chapter 7's first case). -/
def someLimits : PerJoint JointLimits :=
  .all { min := -500, max := 1800, neutral := 600, stow := 0, maxStep := 40, torque := 450 }

/-- CONFIG with bank 12, entries 3, 5 and 6, limits for every leg, and a fresh record from every leg. -/
def config : State :=
  { State.reset with
    banks := State.reset.banks.setIfInBounds 12 (.ready bank12)
    gaits := ((State.reset.gaits.setIfInBounds 3 (some entry3)).setIfInBounds 5 (some entry5)).setIfInBounds 6 (some entry6)
    limits := .all (some someLimits)
    ring := { State.reset.ring with lastFresh := .all true } }

/-- A slot of entry 3 at a master phase, unparked. -/
def trotSlot (master offset : Phase) : Slot :=
  { bank := 12, offset := offset, mirror := false, phase := master + offset
    swing := bank12.header.inSwing (master + offset), parked := none }

/-- A slot of entry 3 parked at a phase. -/
def parkedTrot (offset at_ : Phase) : Slot :=
  { bank := 12, offset := offset, mirror := false, phase := at_, swing := false, parked := some at_ }

/-- Walking on entry 3 at the full rate, with the master at a phase. -/
def walkingAt (master : Phase) : State :=
  { config with
    sup := { config.sup with op := .walking }
    engine := { config.engine with
      current := 3, rate := 1024, amp := 180, master := master
      intent := { rateTarget := 1024, ampTarget := 200, turn := 20, direction := .forward, stop := false }
      slots := ⟨trotSlot master 0, trotSlot master 32768, trotSlot master 32768, trotSlot master 0⟩ } }

/-- The same in STOPPING. -/
def stoppingAt (master : Phase) : State :=
  { walkingAt master with sup := { config.sup with op := .stopping } }

/-- Standing on entry 3, every leg parked at its touchdown phase. -/
def standing : State :=
  { config with
    sup := { config.sup with op := .standing }
    engine := { config.engine with
      current := 3
      slots := ⟨parkedTrot 0 57344, parkedTrot 32768 57344, parkedTrot 32768 57344, parkedTrot 0 57344⟩ } }

/-- SAFE with a posture. -/
def safe (p : Posture) : State := { standing with sup := { standing.sup with op := .safe, posture := some p } }

/-- The processor busy with a frame of some code and arguments, under tag 7. -/
def busy (s : State) (query : Bool) (code : Byte) (args : List Byte) : State :=
  { s with link := { s.link with busy := some { query := query, payload := code :: 7 :: args }, reserved := true } }

/-- The code of the reply that a completion gives. -/
def answerOf (c : Instr) (s : State) : Option ReplyCode := ((after c s).link.replies.getLast?).map Reply.code

/-- One sweep return for the phase engine. -/
def returned (s : State) : State := { s with wires := { s.wires with sweepReturns := [9] } }

/-- One slot for a leg. -/
def withSlot (s : State) (l : LegId) (slot : LegSlot) : State :=
  { s with wires := { s.wires with legSlots := s.wires.legSlots.set l [slot] } }

/-- A fresh leg record with a force. -/
def force (n : Nat) : LegSlot := .fresh { force := n, hf := 0, torques := .all 0 }

/-- A leg's contact record changed. -/
def withContact (s : State) (l : LegId) (f : LegContact → LegContact) : State :=
  { s with monitor := { s.monitor with legs := s.monitor.legs.set l (f (s.monitor.legs.get l)) } }

/-- A stack entry of a line with its source's power-on settings. -/
def entryOf (line progress : Nat) : Entry := { powerOnArbiter.entryFor line with progress := progress }

/-- A reflex stack, top first. -/
def withStack (s : State) (stack : List Entry) : State :=
  { s with arbiter := { s.arbiter with stack := stack, level := stackLevel stack } }

/-- A raise on its way. -/
def raised (s : State) (line : Nat) (value : Int) : State :=
  { s with wires := { s.wires with raises := [{ line := line, value := value, tag := 3 }] } }

/-! ## Worked examples of spec/ -/

/-- R164: the CRC of the nine characters 1 to 9 is 0x29B1. -/
theorem test_crc_check_string : crc16 [0x31, 0x32, 0x33, 0x34, 0x35, 0x36, 0x37, 0x38, 0x39] = 0x29B1#16 := by decide +kernel

/-- R4: with liftoff 60000 and touchdown 8000 the window is 13536 long and holds 65535 and 7999, not 8000. -/
theorem test_window_across_zero :
    fwd 60000 8000 = 13536
    ∧ [(60000 : Phase), 65535, 7999, 8000].map { bank12.header with liftoff := 60000, touchdown := 8000 }.inSwing
      = [true, true, true, false] := by decide

/-- Chapter 1, rows 1, 2, 7 and 10 of the first example: OPEN-BANK 12 is DONE, DEFINE-GAIT on a bank not READY is NOT-READY, and
OPEN-BANK of a bank in use is IN-USE. -/
theorem test_open_bank_12 :
    answerOf .openBank (busy State.reset false 1 [12]) = some .done
    ∧ (after .openBank (busy State.reset false 1 [12])).bank 12 = .filling none (.all none)
    ∧ answerOf .openBank (busy config false 1 [12]) = some .inUse := by decide +kernel

/-- Chapter 1, rows 3 and 4: a refresh point of 61440 is RANGE, one of 45056 is DONE. -/
theorem test_write_header :
    let s := after .openBank (busy State.reset false 1 [12])
    answerOf .writePart (busy s false 2 [12, 0, 0xA0, 0, 0xE0, 0, 0xF0, 0, 6, 11, 6]) = some .range
    ∧ answerOf .writePart (busy s false 2 [12, 0, 0xA0, 0, 0xE0, 0, 0xB0, 0, 6, 11, 6]) = some .done := by decide +kernel

/-- Chapter 1, rows 7 and 9: DEFINE-GAIT 3 with bank 12 at offsets 0, 32768, 32768 and 0. -/
theorem test_define_gait_3 :
    let args : List Byte := [3, 0, 12, 0, 0, 12, 0x80, 0, 12, 0x80, 0, 12, 0, 0]
    answerOf .defineGait (busy State.reset false 3 args) = some .notReady
    ∧ (after .defineGait (busy { config with gaits := State.reset.gaits } false 3 args)).gait 3 = some entry3 := by
  decide +kernel

/-- Chapter 1, second example: the slots of TRI-H entry 5 with RH stowed, and with LH stowed. -/
theorem test_three_legged_slots :
    (LegId.all.map (slotMember (some entry5) ⟨.active, .active, .active, .stowed⟩)
      = [some (⟨12, 43690⟩, true), some (⟨12, 21845⟩, true), some (⟨12, 0⟩, true), none])
    ∧ (LegId.all.map (slotMember (some entry5) ⟨.active, .active, .stowed, .active⟩)
      = [some (⟨12, 21845⟩, false), some (⟨12, 43690⟩, false), none, some (⟨12, 0⟩, false)]) := by decide

/-- Chapter 2, first example, advance 1: LF and RH at 51024 in swing, RF and LH at 18256 in stance. -/
theorem test_advance_1 :
    let t := after .advance (returned (stoppingAt 50000))
    t.engine.slots = ⟨trotSlot 51024 0, trotSlot 51024 32768, trotSlot 51024 32768, trotSlot 51024 0⟩
    ∧ t.engine.slots.lf.swing = true ∧ t.engine.slots.rf.phase = 18256 ∧ t.engine.slots.rf.swing = false := by
  decide +kernel

/-- Chapter 2, first example, advance 8: LF and RH cross 57344 and park at 58192. -/
theorem test_advance_8 :
    let t := after .advance (returned (stoppingAt 57168))
    t.engine.slots.lf = parkedTrot 0 58192 ∧ t.engine.slots.rh = parkedTrot 0 58192
    ∧ t.engine.slots.rf.parked = none := by decide +kernel

/-- Chapter 2, second example: at M_old = 64600 the pending entry 6 becomes current and M becomes 88. -/
theorem test_gait_at_wrap :
    let s := walkingAt 64600
    let t := after .advance (returned { s with engine := { s.engine with pendingGait := some 6 } })
    t.engine.current = 6 ∧ t.engine.pendingGait = none ∧ t.engine.master = 88 ∧ t.engine.slots.lf.phase = 188 := by
  decide +kernel

/-- Chapter 3, first example: the contact after each of the seven records, from UNKNOWN with a baseline of 40. -/
theorem test_footfall :
    ([45, 130, 150, 80, 60, 65, 55].foldl
      (fun (a : LegContact × List Contact) n =>
        let c := a.1.classified defaultContact n
        (c, a.2 ++ [c.contact])) ({ resetContact 40 0 with age := 0 }, [])).2
      = [.unknown, .unknown, .loaded, .loaded, .loaded, .loaded, .unloaded] := by decide +kernel

/-- Chapter 3, second example: samples 22, 25, 19 and 23 make a baseline of 22 and an age of 0. -/
theorem test_capture_of_four :
    let c : LegContact := { resetContact 0 20042 with contact := .unloaded, capture := some ⟨3, 66⟩ }
    (c.captured true 23).baseline = 22 ∧ (c.captured true 23).age = 0 ∧ (c.captured true 23).capture = none := by decide

/-- Chapter 3, third example: RF loaded at phase 49024 raises line 9 with 8320. -/
theorem test_early_contact :
    let s := withContact (walkingAt 16256) .rf fun c => { c with contact := .unloaded, onCount := 1, age := 0 }
    (after (.contactChange .rf) (withSlot s .rf (force 95))).wires.raises
      = [{ line := 9, value := 8320, tag := 0 }] := by decide +kernel

/-- Chapter 3, third example: LH unloaded in stance at phase 62208 raises line 14 with 4864, and at 61184 nothing. -/
theorem test_missed_step :
    let at_ (m : Phase) : State := withSlot (withContact (walkingAt m) .lh fun c => { c with contact := .unloaded, age := 0 })
      .lh (force 10)
    (after (.legRecord .lh) (at_ 29440)).wires.raises = [{ line := 14, value := 4864, tag := 0 }]
    ∧ (after (.legRecord .lh) (at_ 28416)).wires.raises = [] := by decide +kernel

/-- Chapter 4's example: the HF offsets of the four legs are 94, 79, −80 and −95. -/
def exampleBalance : Balance :=
  { powerOnBalance with
    heldPitch := 180, heldRoll := -15, heldPitchRate := 12, heldRollRate := -4, refPitch := 210, band := 2
    bands := { powerOnBalance.bands with b2 := .all ⟨3072, 256, 512, 64, 300⟩ } }

theorem test_balance_offsets : LegId.all.map (fun l => exampleBalance.offset l .hf) = [94, 79, -80, -95] := by decide +kernel

/-- Chapter 7's first case: LH's HF target is 373, with the stiffness 11. -/
theorem test_trotting_hind_leg :
    let w := walkingAt 30400
    let s : State := { w with
      balance := exampleBalance
      shaper := .all { powerOnShape with prev := .all 395, prevValid := true }
      wires := { w.wires with phaseUpdates := [5] } }
    ((after .composition s).shaper.lh.prev.hf, s.stiffness .lh) = (373, 11) := by decide +kernel

/-- Chapter 7's third case: the interpolations at 11000, 64500 and 65535. -/
theorem test_interpolation :
    interpolate ([0, 0, 0, 0, 0, 37, -21] ++ List.replicate 25 0) 11000 = 15
    ∧ interpolate ([-90] ++ List.replicate 30 0 ++ [-200]) 64500 = -146
    ∧ interpolate ([-90] ++ List.replicate 30 0 ++ [-200]) 65535 = -91 := by decide +kernel

/-- Chapter 7's second case: the slew comes before the clamp, 1790 to 1830 to 1800. -/
theorem test_slew_then_clamp : slew 1790 1950 40 = 1830 ∧ clampI (slew 1790 1950 40) (-200) 1800 = 1800 := by decide

/-- Chapter 6's second example: the weights at progress 1, 50, 100, 137 and 200. -/
theorem test_crouch_weights : [1, 50, 100, 137, 200].map (crouchWeight · 200) = [1, 64, 128, 175, 256] := by decide

/-- Chapter 6's first example: the limit of a PLANT of 60 by 10 is 600, and its first step reaches 10. -/
theorem test_plant_reach :
    (entryOf 14 0).plantLimit = 600 ∧ (entryOf 14 0).stepped.reach = 10 ∧ (entryOf 14 0).stepped.contribution = -10 := by
  decide +kernel

/-- Chapter 5's second example: the full stack sheds line 20, and line 1 is pushed at level 9. -/
theorem test_full_stack :
    let s := raised (withStack standing [entryOf 25 0, entryOf 14 0, entryOf 6 0, entryOf 20 0]) 1 7
    let t := after (.raise 1) s
    t.arbiter.stack.map Entry.line = [1, 25, 14, 6] ∧ t.arbiter.level = 9
    ∧ t.link.alerts.map (fun a => (a.kind, a.value)) = [(.detected, 7), (.reflexDone, 0), (.reflexTaken, 4)] := by
  decide +kernel

/-- Chapter 5's third example: with the hold-off at 60, EARLY-CONTACT is HELD and OVERTORQUE is taken. -/
theorem test_hold_off :
    let s := { walkingAt 0 with engine := { (walkingAt 0).engine with holdOff := 60 } }
    s.disposition 9 = .held ∧ s.disposition 25 = .pended := by decide +kernel

/-- Chapter 8's example, tag 46: the fifth loss takes the ring DOWN and raises line 5 with 5. A sweep return still waiting is not
counted any more (R32, R121; log 41). -/
theorem test_fifth_loss :
    let s := { standing with
      ring := { standing.ring with tag := 46, lossCount := 4, inFlight := some { tag := 46, map := standing.ring.legMap } }
      wires := { standing.wires with sweepReturns := [41], phaseUpdates := [40] } }
    let t := after (.ringLoss none) s
    t.ring.up = false ∧ t.ring.lossCount = 5 ∧ t.ring.tag = 47 ∧ t.wires.raises = [{ line := 5, value := 5, tag := 46 }]
    ∧ t.wires.sweepReturns = [] ∧ t.wires.phaseUpdates = [] := by
  decide +kernel

/-- R31: a swinging leg that parks at a phase still in the swing window has no touchdown, one that parks outside it has; and a leg
re-derived at a wrap crosses nothing. -/
theorem test_report_of_parking :
    let h := bank12.header
    let wide : Header := { h with liftoff := 57400, touchdown := 57344 }
    (legReport wide (trotSlot 57300 0) (parkedTrot 0 57420) 1024 false).touchdown = false
    ∧ (legReport h (trotSlot 57168 0) (parkedTrot 0 58192) 1024 false).touchdown = true
    ∧ (legReport h (trotSlot 44800 0) (trotSlot 45824 0) 1024 false).crossing = true
    ∧ (legReport h (trotSlot 44800 0) (trotSlot 45824 0) 1024 true).crossing = false := by decide

/-- Chapter 9's first example: RESET in WALKING is DEFERRED, and the state becomes STOPPING with the reset pending. -/
theorem test_deferred_reset :
    let s := busy (walkingAt 50000) false 20 []
    answerOf .reset s = some .deferred ∧ (after .reset s).sup.op = .stopping ∧ (after .reset s).sup.resetPending = true := by
  decide +kernel

/-- Chapter 9's second example, steps 5 and 6: SET-LEG-MODE of a FAULTED RH to STRUT on entry 3 is NOT-READY, to STOWED on entry 5
is DONE, and the slots are mirrored and parked at the touchdown phase. -/
theorem test_stow_after_fault :
    let s0 := safe .freeze
    let s := { s0 with sup := { s0.sup with modes := ⟨.active, .active, .active, .faulted⟩ } }
    answerOf .setLegMode (busy s false 12 [3, 2, 3]) = some .notReady
    ∧ answerOf .setLegMode (busy s false 12 [3, 1, 5]) = some .done
    ∧ (after .setLegMode (busy s false 12 [3, 1, 5])).engine.slots.lf
      = { bank := 12, offset := 43690, mirror := true, phase := 57344, swing := false, parked := some 57344 } := by
  decide +kernel

/-- Chapter 10's example: with four frames in the inbox, five replies and one reserved, a frame is answered FULL. -/
theorem test_full_inbox :
    let f : CmdFrame := ⟨false, [6, 26]⟩
    let r : Reply := ⟨6, 1, .done, []⟩
    (({ powerOnLink with inbox := List.replicate 4 f, replies := List.replicate 5 r, reserved := true } : Link).receive f).replies
      = List.replicate 5 r ++ [⟨6, 26, .full, []⟩] := by decide

/-- Chapter 11's example, rows 1, 5 and 7: IDENTIFY's data; SET-WALK with the strut cap above the ceiling is RANGE; RELEVEL in
CONFIG is STATE. -/
theorem test_short_session :
    (after .identify (busy State.reset true 69 [])).link.replies = [⟨69, 7, .done, [0x01, 0x9C, 1, 4, 64, 16]⟩]
    ∧ answerOf .setWalk (busy State.reset false 15 [0x03, 0x84, 0, 64, 0x03, 0xE8, 0, 16, 4, 0, 100]) = some .range
    ∧ answerOf .relevel (busy State.reset false 18 []) = some .state := by decide +kernel

/-- R190 and R191: an alert payload has 9 bytes and a status payload 72. -/
theorem test_payload_lengths :
    (statusPayload State.reset.image).length = 72
    ∧ (alertPayload (newAlert .hole (.leg .lh) (.line 14) 1 600)).length = 9 := by
  constructor <;> rfl

/-! ## Witnesses: for each statement with hypotheses, states and operands that meet them -/

/-- A whole state for the laws: walking on entry 3, with one command waiting. -/
def ready : State := { walkingAt 50000 with pending := [.advance] }

theorem test_meets_StepRunsFrontCommand : ready.pending = .advance :: [] ∧ State.reset.pending = [] := ⟨rfl, rfl⟩

theorem ready_arbiterLaw : ArbiterLaw ready :=
  ⟨by decide +kernel, List.Pairwise.nil, rfl, (by intro e h; cases h), (by intro h; exact ⟨rfl, rfl⟩)⟩

theorem ready_linkLaws : AlertLaw ready ∧ LinkLaw ready :=
  ⟨⟨by decide +kernel, by simp [ready, walkingAt, config, State.reset, powerOnLink]⟩,
    by decide +kernel, by decide +kernel, (by intro h; cases h), by decide +kernel, by decide +kernel, trivial⟩

theorem ready_bank : ∀ b : Fin 64,
    ready.bank b = .empty ∨ ready.bank b = .ready standProfile ∨ ready.bank b = .ready crouchProfile
      ∨ ready.bank b = .ready bank12 := by
  decide +kernel

theorem ready_named : ∀ b : Fin 64, ready.inUse b = true → (ready.bank b).isReady = true := by decide +kernel

theorem ready_bank_none (b : Nat) (h : 64 ≤ b) : ready.bank b = .empty := by
  simp [State.bank, Vector.getElem?_eq_none h]

theorem ready_inUse_lt (b : Nat) (h : 64 ≤ b) : ready.inUse b = false := by
  have hg : ready.gaits.toList = some builtInGait :: Option.none :: Option.none :: some entry3 :: Option.none :: some entry5
      :: some entry6 :: List.replicate 9 Option.none := by decide +kernel
  have hc : ready.gait ready.engine.current = some entry3 := by decide +kernel
  have hs : ready.engine.slots.toList.map Slot.bank = [12, 12, 12, 12] := by decide +kernel
  have hp : ready.engine.pendingGait = Option.none := rfl
  have h1 : (ready.engine.slots.toList.any fun sl => sl.bank == b) = false := by
    have : (ready.engine.slots.toList.any fun sl => sl.bank == b)
        = ((ready.engine.slots.toList.map Slot.bank).any fun n => n == b) := by simp [List.any_map, Function.comp_def]
    rw [this, hs]; simp; omega
  have n0 : builtInGait.names b = false := by
    simp [Gait.names, Gait.members, builtInGait, PerLeg.all, PerLeg.toList]; omega
  have n3 : entry3.names b = false := by simp [Gait.names, Gait.members, entry3, PerLeg.toList]; omega
  have n5 : entry5.names b = false := by simp [Gait.names, Gait.members, entry5]; omega
  have n6 : entry6.names b = false := by simp [Gait.names, Gait.members, entry6, PerLeg.all, PerLeg.toList]; omega
  simp [State.inUse, h1, hg, hc, hp, n0, n3, n5, n6, List.replicate]

theorem bank12_good : Bank.good (.ready bank12) := by
  refine ⟨by decide, ?_⟩
  intro j; cases j <;> exact ⟨by decide, by decide⟩

theorem stand_good : Bank.good (.ready standProfile) := by
  refine ⟨by decide, ?_⟩
  intro j; cases j <;> exact ⟨by decide, by decide⟩

theorem crouch_good : Bank.good (.ready crouchProfile) := by
  refine ⟨by decide, ?_⟩
  intro j; cases j <;> exact ⟨by decide, by decide⟩

theorem ready_profileLaw : ProfileLaw ready := by
  refine ⟨?_, ?_, by decide +kernel, by decide +kernel, by decide +kernel, by decide +kernel, (by intro g h; cases h)⟩
  · intro b h
    by_cases hb : b < 64
    · exact ready_named ⟨b, hb⟩ h
    · rw [ready_inUse_lt b (by omega)] at h; cases h
  · intro b
    by_cases hb : b < 64
    · rcases ready_bank ⟨b, hb⟩ with h | h | h | h <;> simp only at h <;> rw [h]
      · trivial
      · exact stand_good
      · exact crouch_good
      · exact bank12_good
    · rw [ready_bank_none b (by omega)]; trivial

theorem ready_slotLaw : SlotLaw ready := by
  refine ⟨?_, ?_, ?_, fun _ => by decide +kernel, (by intro g h; cases h)⟩
  · intro l; cases l <;> exact ⟨rfl, rfl, rfl⟩
  · have h : ∀ l ∈ LegId.all, (ready.engine.slots.get l).swing
        = (ready.header (ready.engine.slots.get l).bank).inSwing (ready.engine.slots.get l).phase := by decide +kernel
    intro l; cases l <;> exact h _ (by decide)
  · intro h; cases h

theorem ready_rateLaw : RateLaw ready := by
  refine ⟨by decide +kernel, by decide +kernel, by decide +kernel, by decide +kernel, (by intro h; cases h), ?_⟩
  decide +kernel

theorem ready_monitorLaw : MonitorLaw ready := by
  refine ⟨?_, by decide +kernel, ?_⟩
  · intro l
    cases l <;> exact ⟨by decide, by decide, by decide, by decide, by decide, by decide, (by intro k h; cases h)⟩
  · intro l r h; cases l <;> cases h

theorem ready_balanceLaw : BalanceLaw ready := by
  refine ⟨by decide, by decide, (by intro b r h; cases h), by decide, by decide, by decide, by decide, by decide, by decide, by decide,
    ?_, (by intro k h; cases h), by decide⟩
  intro n j; fin_cases n <;> cases j <;> decide

theorem ready_unitLaw : ReflexUnitLaw ready := by
  refine ⟨by decide, ?_, (by intro e h; cases h), (by intro e h; cases h), ?_⟩
  · intro l; cases l <;> decide
  · intro src; cases src <;> decide

theorem ready_driveLaw : DriveLaw ready := by
  refine ⟨(by intro h; cases h), ?_, ?_⟩
  · intro l lims j h; cases l <;> cases h <;> cases j <;> decide
  · intro l t k tag h; cases l <;> cases h

theorem ready_mapGood : MapGood ready.ring.legMap := ⟨by decide, by decide⟩

theorem ready_ringLaw : RingLaw ready := by
  refine ⟨by decide, by decide, by decide, (by intro b h; cases h), ready_mapGood, (by intro fl h; cases h), ?_, by decide, by decide,
    by decide, by decide, (by intro h; cases h)⟩
  intro l; cases l <;> decide

/-- The same with the ring DOWN. -/
def readyDown : State := { ready with ring := { ready.ring with up := false } }

theorem readyDown_ringLaw : RingLaw readyDown := by
  refine ⟨by decide, by decide, by decide, (by intro b h; cases h), ready_mapGood, (by intro fl h; cases h), ?_, by decide, by decide,
    by decide, by decide, fun _ => ⟨?_, rfl, rfl, rfl, rfl, rfl⟩⟩ <;> intro l <;> cases l <;> decide

theorem ready_supervisorLaw : SupervisorLaw ready :=
  ⟨by decide, by decide, by decide, by decide, by decide⟩

/-- The statements that a law is kept by every step: a state in which all hold, walking, which steps. -/
theorem test_meets_the_laws : Lawful ready ∧ ∃ t, step ready = .next t :=
  ⟨⟨ready_arbiterLaw, ready_linkLaws.1, ready_linkLaws.2, ready_profileLaw, ready_slotLaw, ready_rateLaw, ready_monitorLaw,
    ready_balanceLaw, ready_unitLaw, ready_driveLaw, ready_ringLaw, ready_supervisorLaw⟩, _, rfl⟩

/-! ### The joint ring -/

/-- A sweep whose CRC is good, from its tag and its slots. -/
def goodFrame (tag : Byte) (slots : List Byte) : RingFrame := { tag := tag, slots := slots, crc := sweepCrc tag slots }

/-- A return of tag 46, every slot stale. -/
def goodReturn : RingFrame := goodFrame 46 (List.replicate 80 0)

/-- The same with its CRC spoiled. -/
def badReturn : RingFrame := { goodReturn with crc := ~~~goodReturn.crc }

/-- Sweep 46 in flight, with a consecutive-loss count. -/
def inFlight46 (up : Bool) (losses restored : Nat) : State :=
  { standing with ring := { standing.ring with
    tag := 46, up := up, lossCount := losses, restoration := restored
    inFlight := some { tag := 46, map := standing.ring.legMap } } }

theorem goodReturn_good : ringCrcGood goodReturn = true := by simp [ringCrcGood, goodReturn, goodFrame]

theorem badReturn_bad : ringCrcGood badReturn = false := by
  have h : ∀ x : BitVec 16, ¬(~~~x = x) := fun x h => by
    have := congrArg (fun y => y.getLsbD 0) h
    simp at this
  simp [ringCrcGood, badReturn, goodReturn, goodFrame, h]

theorem test_meets_SweepIssueSendsDriveBuffer : State.reset.ring.inFlight = none ∧ MapGood State.reset.ring.legMap :=
  ⟨rfl, ready_mapGood⟩

/-- The four kinds of loss: a tag not in flight; the last loss before the limit of 5, and the one that reaches it; and a loss while
DOWN. And a lawful state that is DOWN. -/
theorem test_meets_LostSweepCountsOrTakesRingDown :
    (goodFrame 45 []).tag ≠ (46 : Byte)
    ∧ (ringCrcGood badReturn = false ∧ badReturn.tag = 46)
    ∧ (let s := inFlight46 true 3 0
       (s.ring.inFlight.map Flight.tag = some 46) ∧ s.balance.relevel = none ∧ s.ring.up = true
       ∧ s.ring.lossCount + 1 < s.ring.lossLimit ∧ s.ring.lossLimit ≤ 15)
    ∧ (let s := inFlight46 true 4 0
       s.ring.up = true ∧ s.balance.relevel = none ∧ s.ring.lossLimit ≤ min (s.ring.lossCount + 1) 15)
    ∧ (inFlight46 false 5 7).ring.up = false
    ∧ (RingLaw readyDown ∧ readyDown.ring.up = false) :=
  ⟨by decide, ⟨badReturn_bad, rfl⟩, by decide +kernel, by decide +kernel, rfl, readyDown_ringLaw, rfl⟩

/-- A good return while UP; the seventh and the eighth while DOWN. -/
theorem test_meets_GoodReturnIsHandedInward :
    ringCrcGood goodReturn = true ∧ goodReturn.tag = 46
    ∧ (inFlight46 true 0 0).ring.up = true
    ∧ (inFlight46 false 5 6).ring.restoration < 7 ∧ (inFlight46 false 5 7).ring.restoration = 7
    ∧ (inFlight46 true 0 0).ring.inFlight.map Flight.tag = some goodReturn.tag :=
  ⟨goodReturn_good, rfl, rfl, by decide, rfl, rfl⟩

/-! ### Drive failures -/

/-- Modes set. -/
def withModes (s : State) (m : PerLeg Mode) : State := { s with sup := { s.sup with modes := m } }

/-- A soft reset pending. -/
def resetting (s : State) : State := { s with sup := { s.sup with resetPending := true } }

/-- A drive status and a stale-limit report waiting for a leg. -/
def failing (s : State) (l : LegId) (b : Byte) : State :=
  { s with wires := { s.wires with
    driveStatus := s.wires.driveStatus.set l [b], staleReports := s.wires.staleReports.set l [3] } }

theorem test_meets_DriveFailureFaultsActiveLeg :
    let s := failing ready .rh 1
    s.sup.modes.rh = .active ∧ s.sup.resetPending = false ∧ SlotLaw s ∧ faultedCount s.sup.modes = 0
    ∧ s.wires.driveStatus.rh = [1] ∧ s.wires.staleReports.rh = [3]
    ∧ (resetting s).sup.resetPending = true ∧ faultedCount (resetting s).sup.modes = 0 ∧ SlotLaw (resetting s) :=
  ⟨rfl, rfl, ready_slotLaw, rfl, rfl, rfl, rfl, rfl, ready_slotLaw⟩

theorem test_meets_LaterDriveFailures :
    (let s := failing (withModes ready ⟨.faulted, .active, .active, .active⟩) .rh 1
     s.sup.modes.rh = .active ∧ s.sup.modes.lf = .faulted ∧ s.sup.op.isLive = true ∧ s.sup.resetPending = false
     ∧ s.wires.driveStatus.rh = [1] ∧ s.wires.staleReports.rh = [3])
    ∧ (failing ready .rh 0).wires.driveStatus.rh = [0]
    ∧ (let s := failing (withModes ready ⟨.faulted, .stowed, .strut, .active⟩) .lh 255
       s.sup.modes.lf = .faulted ∧ s.sup.modes.rf = .stowed ∧ s.sup.modes.lh = .strut ∧ s.sup.op.isLive = true
       ∧ s.sup.resetPending = false ∧ s.wires.driveStatus.lh = [255] ∧ s.wires.staleReports.lh = [3]
       ∧ (failing s .rf 1).wires.staleReports.rf = [3] ∧ (failing s .lf 1).wires.staleReports.lf = [3]
       ∧ (resetting s).sup.resetPending = true ∧ (resetting s).sup.op.isLive = true)
    ∧ (safe .freeze).sup.op.isLive = false := by decide +kernel

/-! ### The contact monitor -/

/-- A leg that is not degraded, with a baseline of 40 and some contact and counters. -/
def footed (s : State) (l : LegId) (c : Contact) (on off : Nat) : State :=
  withContact s l fun x => { x with contact := c, onCount := on, offCount := off, baseline := 40, age := 0 }

/-- The same leg degraded by the ageing of the slot. -/
def aged (s : State) (l : LegId) : State := withContact s l fun x => { x with age := s.monitor.settings.maxAge }

/-- The factor of the thresholds in the statements about a leg's slot. -/
def factor (s : State) (l : LegId) : Int :=
  if s.monitor.settings.maxAge < min ((s.monitor.legs.get l).age + 1) 65535 then 2 else 1

/-- A stale slot; a load of exactly the on threshold that completes the on count; a load below the off threshold that completes the
off count; a load of exactly the off threshold, which is between; and for a degraded leg the same at twice the thresholds. -/
theorem test_meets_LegSlotClassifiesContact :
    (withSlot ready .lf .stale).wires.legSlots.lf = [.stale]
    ∧ (let s := withSlot (footed ready .lf .unknown 1 0) .lf (force 100)
       factor s .lf = 1 ∧ (s.monitor.settings.onThreshold : Int) ≤ (100 : Int) - s.monitor.legs.lf.baseline
       ∧ s.monitor.settings.onCount ≤ s.monitor.legs.lf.onCount + 1)
    ∧ (let s := withSlot (footed ready .lf .loaded 0 2) .lf (force 69)
       (69 : Int) - s.monitor.legs.lf.baseline < s.monitor.settings.offThreshold
       ∧ s.monitor.settings.offCount ≤ s.monitor.legs.lf.offCount + 1)
    ∧ (let s := withSlot (footed ready .lf .loaded 0 2) .lf (force 70)
       s.monitor.settings.offThreshold ≤ (70 : Int) - s.monitor.legs.lf.baseline
       ∧ (70 : Int) - s.monitor.legs.lf.baseline < s.monitor.settings.onThreshold)
    ∧ (let s := aged (footed ready .lf .loaded 0 2) .lf
       factor s .lf = 2 ∧ (99 : Int) - s.monitor.legs.lf.baseline < 2 * s.monitor.settings.offThreshold
       ∧ 2 * (s.monitor.settings.onThreshold : Int) ≤ (160 : Int) - s.monitor.legs.lf.baseline) := by decide +kernel

/-- A PLANT on top for the leg that becomes LOADED, not degraded and degraded; a foot that becomes LOADED 7344 before touchdown; a foot
that loses its load, and one still UNLOADED, 8192 after touchdown; a parked and a STRUT foot; a stale slot at the last age before
the baseline is stale. The last two clauses: a foot that becomes LOADED raises EARLY-CONTACT, and not in SAFE. -/
theorem test_meets_ContactChangesAreDetected :
    (let s := withStack (withSlot (footed ready .lh .unloaded 1 0) .lh (force 100)) [entryOf 14 5]
     s.wires.legSlots.lh = [force 100] ∧ s.monitor.legs.lh.contact ≠ .loaded
     ∧ factor s .lh = 1 ∧ (s.monitor.settings.onThreshold : Int) ≤ (100 : Int) - s.monitor.legs.lh.baseline
     ∧ (factor (aged s .lh) .lh = 2 ∧ 2 * (s.monitor.settings.onThreshold : Int) ≤ (160 : Int) - s.monitor.legs.lh.baseline)
     ∧ s.monitor.settings.onCount ≤ min (s.monitor.legs.lh.onCount + 1) 8
     ∧ s.arbiter.stack.map (fun e => (e.action, e.leg)) = [(.plant, some .lh)] ∧ s.unit.finished = .clear)
    ∧ (let s := withSlot (footed ready .lf .unloaded 1 0) .lf (force 100)
       s.monitor.legs.lf.contact ≠ .loaded ∧ s.sup.op.isLive = true ∧ s.sup.modes.lf = .active ∧ s.engine.slots.lf.swing = true
       ∧ s.monitor.settings.onCount ≤ min (s.monitor.legs.lf.onCount + 1) 8
       ∧ fwd s.engine.slots.lf.phase (s.header s.engine.slots.lf.bank).touchdown = 7344
       ∧ s.monitor.settings.earlyMargin < 7344 ∧ s.monitor.legs.lf.earlyArm = true)
    ∧ (let s := withSlot (footed (walkingAt 0) .lf .loaded 0 2) .lf (force 69)
       s.wires.legSlots.lf = [force 69] ∧ s.sup.op.isLive = true ∧ factor s .lf = 1
       ∧ (69 : Int) - s.monitor.legs.lf.baseline < s.monitor.settings.offThreshold
       ∧ (69 : Int) - s.monitor.legs.lf.baseline < s.monitor.settings.onThreshold
       ∧ s.monitor.settings.offCount ≤ min (s.monitor.legs.lf.offCount + 1) 8 ∧ s.monitor.legs.lf.unloadArm = true
       ∧ s.sup.modes.lf = .active ∧ s.engine.slots.lf.swing = false ∧ s.engine.slots.lf.parked = none
       ∧ s.monitor.settings.lateMargin < fwd (s.header s.engine.slots.lf.bank).touchdown s.engine.slots.lf.phase
       ∧ s.monitor.settings.unloadMargin < fwd s.engine.slots.lf.phase (s.header s.engine.slots.lf.bank).liftoff
       ∧ 1 ≤ s.monitor.settings.onCount ∧ s.monitor.legs.lf.missedArm = true
       ∧ (footed s .lf .unloaded 0 0).monitor.legs.lf.contact = .unloaded
       ∧ standing.engine.slots.lf.parked.isSome = true
       ∧ (withModes s ⟨.strut, .active, .active, .active⟩).sup.modes.lf = .strut)
    ∧ (let s := aged (withSlot ready .lf .stale) .lf
       s.wires.legSlots.lf = [.stale] ∧ s.monitor.legs.lf.age = s.monitor.settings.maxAge ∧ s.monitor.legs.lf.staleArm = true)
    ∧ (let s := withSlot (footed ready .lf .unloaded 1 0) .lf (force 100)
       (after (.legRecord .lf) s).wires.raises = [{ line := 8, value := 7344, tag := 0 }]
       ∧ (after (.legRecord .lf) { s with sup := { s.sup with op := .safe } }).wires.raises = []) := by
  decide +kernel

/-- LF in stance at phase 0, loaded, its hip 121 mrad off and its counters one short, degraded with a load of twice the off threshold
and not degraded with a load of once; then a torque of 451. -/
theorem test_meets_SlipAndOvertorqueAreRaised :
    let c0 := withContact (walkingAt 0) .lf fun x => { x with contact := .loaded, slipCount := 3, torqueCount := 2 }
    let s : State := { c0 with shaper := .all { powerOnShape with prevValid := true } }
    let r : LegRec := { force := 60, hf := 121, torques := ⟨451, 450, -451⟩ }
    s.sup.op.isLive = true ∧ s.sup.modes.lf = .active ∧ s.engine.slots.lf.swing = false
    ∧ s.monitor.legs.lf.contact = .loaded
    ∧ factor s .lf = 2 ∧ 2 * (s.monitor.settings.offThreshold : Int) ≤ (r.force : Int) - s.monitor.legs.lf.baseline
    ∧ (let u := withContact s .lf fun x => { x with age := 0 }
       factor u .lf = 1 ∧ (u.monitor.settings.offThreshold : Int) ≤ (30 : Int) - u.monitor.legs.lf.baseline)
    ∧ 1 ≤ s.monitor.settings.offCount ∧ s.shaper.lf.prevValid = true
    ∧ s.monitor.settings.slipThreshold < (r.hf - s.shaper.lf.prev.hf).natAbs
    ∧ s.monitor.settings.slipCount ≤ min (s.monitor.legs.lf.slipCount + 1) 15 ∧ s.monitor.legs.lf.slipArm = true
    ∧ s.limits.lf = some someLimits ∧ (someLimits.get .ab).torque < (r.torques.get .ab).natAbs
    ∧ (∀ i ∈ JointId.all, (r.torques.get i).natAbs ≤ (r.torques.get .ab).natAbs)
    ∧ s.monitor.settings.torqueCount ≤ min (s.monitor.legs.lf.torqueCount + 1) 15 ∧ s.monitor.legs.lf.torqueArm = true
    ∧ (withSlot s .lf (.fresh r)).wires.legSlots.lf = [.fresh r] := by
  decide +kernel

/-- A stale slot that takes the age past the maximum; the fourth sample of a capture, an earlier one, and a record in stance. -/
theorem test_meets_BaselineAgesAndIsCaptured :
    (let s := withSlot ready .lh .stale
     s.monitor.legs.lh.age = s.monitor.settings.maxAge ∧ s.monitor.settings.maxAge ≤ 65000
     ∧ s.monitor.legs.lh.staleArm = true ∧ s.monitor.legs.lh.capture = none)
    ∧ (let s := withContact (walkingAt 50000) .lf fun c => { c with contact := .unloaded, capture := some ⟨3, 66⟩ }
       s.monitor.legs.lf.capture = some { taken := 3, sum := 66 } ∧ s.monitor.legs.lf.contact = .unloaded
       ∧ (23 : Int) - s.monitor.legs.lf.baseline < s.monitor.settings.onThreshold ∧ 1 ≤ s.monitor.settings.onCount
       ∧ s.engine.slots.lf.swing = true)
    ∧ (let s := withContact (walkingAt 0) .lf fun c => { c with contact := .unloaded, capture := some ⟨0, 0⟩ }
       s.monitor.legs.lf.capture = some { taken := 0, sum := 0 } ∧ s.engine.slots.lf.swing = false) := by decide +kernel

/-- The report of an advance from 44800 to 45824 over the refresh point 45056, of a leg UNLOADED and still playing its slot; and a
report of a liftoff, of a touchdown, and none. -/
theorem test_meets_AdvanceReportActs :
    let s := withContact (walkingAt 45824) .lf fun c => { c with contact := .unloaded }
    let h := bank12.header
    let r : LegReport := legReport h (trotSlot 44800 0) (trotSlot 45824 0) 1024 false
    r.crossing = true ∧ r.swingAfter = true ∧ s.monitor.legs.lf.contact = .unloaded
    ∧ 1 ≤ fwd r.oldPhase (s.header r.bank).refresh ∧ fwd r.oldPhase (s.header r.bank).refresh ≤ r.rate
    ∧ s.playing .lf = true ∧ s.engine.slots.lf.bank = r.bank ∧ s.engine.slots.lf.offset = r.offset
    ∧ s.sup.op.isLive = true
    ∧ (legReport h (trotSlot 40784 0) (trotSlot 41808 0) 1024 false).liftoff = true
    ∧ (legReport h (trotSlot 57168 0) (trotSlot 58192 0) 1024 false).touchdown = true
    ∧ (legReport h (trotSlot 60000 0) (trotSlot 61024 0) 1024 false).liftoff = false
    ∧ s.reportFor s.engine.slots 1024 false .lf = some (legReport h (trotSlot 45824 0) (trotSlot 45824 0) 1024 false) := by
  decide +kernel

/-! ### The balance unit -/

/-- A body record, handed at a sweep return with the default stale limit. -/
def body (pitch roll : Int) (valid : Bool) : HandedBody :=
  { slot := .fresh { pitch := pitch, roll := roll, pitchRate := 0, rollRate := 0, valid := valid }, staleLimit := 3 }

/-- A stale body slot, handed at a sweep return with some stale limit. -/
def staleBody (limit : Nat) : HandedBody := { slot := .stale, staleLimit := limit }

/-- A body slot waiting. -/
def withBody (s : State) (slot : HandedBody) : State := { s with wires := { s.wires with bodySlots := [slot] } }

/-- A relevel capture in progress. -/
def relevelling (s : State) (taken : Nat) : State :=
  { s with balance := { s.balance with relevel := some { taken := taken, pitchSum := 150, rollSum := -30 } } }

/-- The unit blind. -/
def blinded (s : State) : State := { s with balance := { s.balance with blind := true } }

/-- A usable record with and without blindness; one past both limits with both arms armed; in CONFIG and SAFE; exactly at the limits;
and the fifteenth and the sixteenth record of a capture. -/
theorem test_meets_UsableRecordIsHeldAndTested :
    (withBody ready (body 525 0 true)).wires.bodySlots = [body 525 0 true]
    ∧ (blinded ready).balance.blind = true ∧ ready.balance.blind = false
    ∧ ready.balance.relevel = none ∧ (relevelling standing 14).balance.relevel.map Relevel.taken = some 14
    ∧ (relevelling standing 15).balance.relevel.map Relevel.taken = some 15
    ∧ ready.sup.op = .walking ∧ State.reset.sup.op = .config ∧ (safe .crouch).sup.op = .safe
    ∧ ready.balance.tiltWarning = 175 ∧ ready.balance.fallLimit = 524
    ∧ (525 - ready.balance.refPitch).natAbs = 525 ∧ ready.balance.tiltArm = true ∧ ready.balance.fallArm = true := by
  decide +kernel

/-- A slot whose count stays below its stale limit, and one whose count comes to it, and one while blind; the sixteenth record of a
capture, and the fifteenth. The last clause: under a limit of 1 set after the sweep return, a first stale slot handed with 3 does
not make the unit blind, and one handed with 1 does. -/
theorem test_meets_BodySlotsBlindAndRelevel :
    (let s := withBody ready (staleBody 3)
     s.wires.bodySlots = [⟨.stale, 3⟩] ∧ s.balance.relevel = none ∧ s.balance.blind = false ∧ (blinded s).balance.blind = true
     ∧ min (1 + 1) 15 < 3 ∧ 3 ≤ min (2 + 1) 15)
    ∧ (let s := withBody (relevelling standing 15) (body 10 0 true)
       s.balance.relevel = some { taken := 15, pitchSum := 150, rollSum := -30 } ∧ s.balance.blind = false
       ∧ s.wires.bodySlots = [body 10 0 true]
       ∧ (relevelling s 14).balance.relevel = some { taken := 14, pitchSum := 150, rollSum := -30 })
    ∧ (let s : State := { ready with ring := { ready.ring with staleLimit := 1 } }
       (after .bodyRecord (withBody s (staleBody 3))).balance.blind = false
       ∧ (after .bodyRecord (withBody s (staleBody 1))).balance.blind = true) := by decide +kernel

/-- A stride frame with references, given as it is sent. -/
def referencesFrame : List Byte := (envelope 1 [4, 0, 0, 200, 0, 20, 0, 2, 255, 0, 210, 0, 0, 60]).drop 1

/-- The six ends of a capture. -/
theorem test_meets_RelevelAborted :
    let s := relevelling standing 7
    s.balance.relevel.isSome = true ∧ s.sup.op = .standing ∧ s.sup.resetPending = false ∧ s.link.alerts.length ≤ 9
    ∧ s.arbiter.stack.length ≤ 4
    ∧ (withBody s (staleBody 3)).wires.bodySlots = [⟨.stale, 3⟩] ∧ (BodySlot.stale).usable = false
    ∧ (relevelling (inFlight46 true 0 0) 7).ring.inFlight.isSome = true
    ∧ (badReturn.tag = 46 ∧ ringCrcGood badReturn = false)
    ∧ 0 < ({ s with wires := { s.wires with walkRequests := 1 } } : State).wires.walkRequests
    ∧ .fallCrouch ∈ ({ s with wires := { s.wires with safeRequests := [.fallCrouch] } } : State).wires.safeRequests
    ∧ (let p : List Byte := [4, 0, 0, 200, 0, 20, 0, 2, 255, 0, 210, 0, 0, 60]
       judge referencesFrame = .stride p ∧ (u8 p 7).testBit 1 = true) :=
  ⟨rfl, rfl, rfl, by decide, by decide, rfl, rfl, rfl, ⟨rfl, badReturn_bad⟩, by decide, by decide, by decide +kernel⟩

theorem test_meets_BalanceOffsetWithinAuthority :
    State.reset.sup.op = .config ∧ ready.sup.op = .walking ∧ ready.sup.modes.lf = .active
    ∧ ready.engine.slots.lf.swing = true ∧ ready.engine.slots.rf.swing = false ∧ standing.sup.op = .standing
    ∧ (safe .crouch).sup.op = .safe ∧ (blinded ready).balance.blind = true
    ∧ (withModes ready ⟨.stowed, .faulted, .strut, .active⟩).sup.modes.lh = .strut := by decide +kernel

/-! ### The phase engine -/

/-- Frozen by a HOLD, and in CONFIG, with the raise not due; and the first return after which the age exceeds the timeout. -/
theorem test_meets_SweepReturnWithoutAdvance :
    (let s := returned (withStack ready [entryOf 6 0])
     s.wires.sweepReturns = [9] ∧ s.arbiter.stack.map Entry.action = [.hold]
     ∧ min (s.engine.intentAge + 1) 65535 ≤ s.engine.walk.intentTimeout)
    ∧ (returned State.reset).sup.op = .config
    ∧ (let s := returned { ready with engine := { ready.engine with intentAge := 100 } }
       s.sup.op = .walking ∧ s.engine.walk.intentTimeout < min (s.engine.intentAge + 1) 65535
       ∧ s.engine.linkLossArmed = true) := by decide +kernel

/-- Walking and stopping with an empty stack and a STOP on top; a parked leg whose computed phase comes to its parked phase. -/
theorem test_meets_AdvanceMovesTheStride :
    (let s := returned (walkingAt 50000)
     s.wires.sweepReturns = [9] ∧ s.sup.op = .walking ∧ s.arbiter.stack.head? = none ∧ SteppedRate s 1024
     ∧ s.engine.pendingGait = none ∧ s.playing .lf = true ∧ s.engine.slots.lf.parked = none)
    ∧ (let s := returned (withStack (stoppingAt 57168) [entryOf 7 0])
       s.sup.op = .stopping ∧ s.arbiter.stack.map Entry.action = [.stop] ∧ SteppedRate s 1024
       ∧ 1 ≤ fwd s.engine.slots.lf.phase (s.header 12).touchdown
       ∧ fwd s.engine.slots.lf.phase (s.header 12).touchdown ≤ 1024)
    ∧ (let s : State := { walkingAt 57680 with engine := { (walkingAt 57680).engine with
          slots := .all (parkedTrot 0 58192) } }
       s.engine.slots.lf.parked = some 58192
       ∧ 1 ≤ fwd (s.engine.master + s.engine.slots.lf.offset) 58192
       ∧ fwd (s.engine.master + s.engine.slots.lf.offset) 58192 ≤ 1024) := by
  refine ⟨⟨rfl, rfl, rfl, rfl, rfl, by decide +kernel, rfl⟩, ⟨rfl, by decide +kernel, rfl, by decide +kernel, by decide +kernel⟩,
    rfl, by decide +kernel, by decide +kernel⟩

/-- The wrap with a leg that plays on and one that does not; a parked leg in WALKING whose phase comes to its new bank's touchdown, and one
whose does not; and in STOPPING a phase that crosses the new touchdown, and one that does not. -/
theorem test_meets_PendingGaitAppliesAtWrap :
    let s0 := walkingAt 64512
    let s := returned { s0 with engine := { s0.engine with pendingGait := some 6 } }
    s.wires.sweepReturns = [9] ∧ s.sup.op = .walking ∧ s.arbiter.stack.head? = none ∧ SteppedRate s 1024
    ∧ s.engine.pendingGait = some 6 ∧ 65536 ≤ s.engine.master.toNat + 1024
    ∧ slotMember (s.gait 6) s.sup.modes .lf = some (⟨1, 100⟩, false)
    ∧ slotMember (s.gait 6) (withModes s ⟨.faulted, .active, .active, .active⟩).sup.modes .lf = none
    ∧ (s.header 1).emptyWindow = true ∧ s.engine.slots.lf.parked = none
    ∧ (let p : State := { s with engine := { s.engine with slots := .all (parkedTrot 0 57344) } }
       p.engine.slots.lf.parked.isSome = true ∧ fwd (p.engine.master + 100) (s.header 1).touchdown = 924
       ∧ fwd (p.engine.master + 0) (s.header 12).touchdown = 58368)
    ∧ (let q : State := { s with sup := { s.sup with op := .stopping } }
       q.sup.op = .stopping ∧ SteppedRate q 1024
       ∧ fwd (trotSlot 57168 0).phase (s.header 12).touchdown = 176 ∧ (s.header 12).emptyWindow = false
       ∧ fwd q.engine.slots.lf.phase (s.header 12).touchdown = 58368
       ∧ slotMember (q.gait 3) q.sup.modes .lf = some (⟨12, 0⟩, false)) :=
  ⟨rfl, rfl, rfl, rfl, rfl, by decide +kernel, by decide +kernel, by decide +kernel, by decide +kernel, rfl, by decide +kernel,
    rfl, rfl, by decide +kernel, by decide +kernel, by decide +kernel, by decide +kernel⟩

/-! ### The joint shaper -/

/-- HOLD in CONFIG, for a FAULTED leg and an unset leg; POSITION with a raw target of the rule. -/
theorem test_meets_CompositionWritesEveryLeg :
    let s : State := { walkingAt 30400 with wires := { (walkingAt 30400).wires with phaseUpdates := [5] } }
    s.wires.phaseUpdates = [5] ∧ State.reset.sup.op = .config
    ∧ (withModes s ⟨.faulted, .active, .active, .active⟩).sup.modes.lf = .faulted ∧ State.reset.limits.lf = none
    ∧ s.sup.op ≠ .config ∧ s.sup.modes.lh ≠ .faulted ∧ s.limits.lh = some someLimits
    ∧ RawTarget s .lh (someLimits.get .hf) .hf 0 (600 - 147) :=
  ⟨rfl, rfl, rfl, rfl, by decide +kernel, by decide +kernel, rfl, by unfold RawTarget; decide +kernel⟩

/-- Two POSITION records in a row. -/
theorem test_meets_SuccessivePositionsWithinMaxStep :
    let s : State := { ready with
      shaper := .all { powerOnShape with prevValid := true, record := .position (.all 0) 11 4 }
      wires := { ready.wires with phaseUpdates := [5] } }
    DriveLaw s ∧ s.limits.lh = some someLimits ∧ (∃ t, exec .composition s = .next t)
    ∧ s.shaper.lh.record = .position (.all 0) 11 4
    ∧ (∃ b k, (after .composition s).shaper.lh.record = .position b k 5) := by
  refine ⟨⟨(by intro h; cases h), ready_driveLaw.2.1, ?_⟩, rfl, ⟨_, rfl⟩, rfl, _, _, rfl⟩
  intro l t k tag h
  cases l <;> cases h <;> refine ⟨rfl, someLimits, rfl, ?_⟩ <;> intro j <;> cases j <;> decide

/-! ### The reflex arbiter and the reflex action unit -/

/-- The four dispositions that are not PENDED. -/
theorem test_meets_RaiseNotPendedOnlyAlerts :
    (raised State.reset 9 1).wires.raises = [{ line := 9, value := 1, tag := 3 }]
    ∧ State.reset.sup.op = .config ∧ ready.sup.op.isLive = true
    ∧ (withStack ready [entryOf 9 0]).arbiter.stack.map Entry.line = [9]
    ∧ (ready.arbiter.settings (lineSource 9)).priority ≤ 6 ∧ (ready.arbiter.settings (lineSource 9)).enabled = true
    ∧ (let a : Arbiter := { powerOnArbiter with sources := { defaultSources with
         earlyContact := { defaultSources.earlyContact with enabled := false } } }
       (a.settings (lineSource 9)).enabled = false) := by decide +kernel

/-- Lines pending. -/
def pended (s : State) (lines : List Nat) : State :=
  { s with arbiter := { s.arbiter with pending := lines.foldl (fun p n => p ||| BitVec.twoPow 32 n) s.arbiter.pending } }

/-- A maskable line over a lower entry; a hard line over a full stack; of three lines pending the highest priority with the lowest
number; a line that does not beat the level; with nesting off a maskable line held back and a hard line not; and a NOTE alone. -/
theorem test_meets_RaisePushesEntry :
    (let s := raised (withStack ready [entryOf 22 12]) 9 8320
     let c := s.arbiter.settings (lineSource 9)
     s.wires.raises = [{ line := 9, value := 8320, tag := 3 }] ∧ s.sup.op.isLive = true
     ∧ (∀ e ∈ s.arbiter.stack, e.line ≠ 9) ∧ c.enabled = true ∧ s.engine.holdOff = 0
     ∧ IsCandidate (pended s [9]).arbiter 9 ∧ Takeable (pended s [9]).arbiter 9 ∧ c.action = .retract
     ∧ IsCandidate (pended s [20, 10, 9]).arbiter 9)
    ∧ (let s := pended (withStack ready [entryOf 25 0, entryOf 14 0, entryOf 6 0, entryOf 20 0]) [1]
       (∀ e ∈ s.arbiter.stack, e.line ≠ 1) ∧ s.arbiter.stack.length = 4 ∧ IsCandidate s.arbiter 1 ∧ Takeable s.arbiter 1)
    ∧ (let s := pended (withStack ready [entryOf 25 0]) [9]
       IsCandidate s.arbiter 9 ∧ ¬Takeable s.arbiter 9)
    ∧ (let a := { (withStack ready [entryOf 20 0]).arbiter with nesting := false }
       ¬Takeable a 9 ∧ Takeable a 1 ∧ Takeable { a with stack := [] } 9)
    ∧ (let s := pended ready [28]
       (s.arbiter.settings (lineSource 28)).action = .note ∧ Takeable s.arbiter 28 ∧ IsCandidate s.arbiter 28
       ∧ ∀ n, n < 32 → s.arbiter.pending.getLsbD n = true → n = 28) := by
  unfold IsCandidate Takeable
  refine ⟨?_, ?_, ?_, ?_, ?_⟩ <;> decide +kernel

theorem test_meets_RaiseOfNoteAndRingLoss :
    (let s := raised ready 28 20001
     let c := s.arbiter.settings (lineSource 28)
     s.sup.op.isLive = true ∧ s.arbiter.stack = [] ∧ s.arbiter.pending = 0 ∧ c.enabled = true ∧ s.engine.holdOff = 0
     ∧ s.arbiter.level < c.priority ∧ c.action = .note)
    ∧ (let s := raised (withStack ready [entryOf 25 0]) 5 5
       ArbiterLaw s ∧ s.sup.op.isLive = true ∧ (∀ e ∈ s.arbiter.stack, e.line ≠ 5) ∧ s.arbiter.pending = 0
       ∧ s.arbiter.level < 8 ∧ s.sup.resetPending = false ∧ (resetting s).sup.resetPending = true
       ∧ ArbiterLaw (resetting s)) := by
  have h : ArbiterLaw (raised (withStack ready [entryOf 25 0]) 5 5) :=
    ⟨by decide, by unfold Priorities; decide +kernel, rfl, by decide +kernel, by decide⟩
  refine ⟨by decide +kernel, h, ?_, ?_, ?_, ?_, ?_, ?_, h⟩ <;>
  decide +kernel

/-- A sweep return for the unit. -/
def unitReturned (s : State) (stack : List Entry) : State :=
  { withStack s stack with wires := { s.wires with reflexReturns := 1 } }

/-- The last step that does not finish each action, and one that a finished mark keeps from counting. -/
theorem test_meets_ReflexStepCountsTop :
    (unitReturned ready [entryOf 6 48]).wires.reflexReturns = 1
    ∧ (entryOf 6 48).action = .hold ∧ (entryOf 6 48).progress + 1 < (entryOf 6 48).duration
    ∧ (entryOf 9 38).action = .retract ∧ (entryOf 9 38).progress + 1 < (entryOf 9 38).duration
    ∧ (entryOf 7 0).action = .stop
    ∧ (let e := { entryOf 14 58 with reach := 580 }
       e.action = .plant ∧ min (e.reach + e.parameter) 1023 < min (e.parameter * e.duration) 1023)
    ∧ (let e := entryOf 4 198
       e.action = .crouch ∧ min 256 (256 * (e.progress + 1) / e.duration) < 256)
    ∧ ready.unit.finished = .clear ∧ (ready.finish (.reported .complete)).unit.finished ≠ .clear := by decide +kernel

/-- The step that finishes each action. -/
theorem test_meets_ActionsFinish :
    ((entryOf 6 49).action = .hold ∧ (entryOf 6 49).duration ≤ (entryOf 6 49).progress + 1 ∧ 6 ≤ (entryOf 6 49).line)
    ∧ ((entryOf 1 19).action = .hold ∧ (entryOf 1 19).duration ≤ (entryOf 1 19).progress + 1
       ∧ (entryOf 1 19).line = LegId.num .rf ∧ (entryOf 1 19).leg = some .rf)
    ∧ ((entryOf 9 39).action = .retract ∧ (entryOf 9 39).duration ≤ (entryOf 9 39).progress + 1)
    ∧ (let e := { entryOf 14 59 with reach := 590 }
       e.action = .plant ∧ e.leg = some .lh ∧ min (e.parameter * e.duration) 1023 ≤ min (e.reach + e.parameter) 1023)
    ∧ ((entryOf 4 199).action = .crouch ∧ 256 ≤ 256 * ((entryOf 4 199).progress + 1) / (entryOf 4 199).duration) := by
  decide +kernel

/-- A finished RETRACT over a suspended STOP; a finished HOLD over a PLANT whose leg is LOADED; and one whose departure lets a waiting line
through. -/
theorem test_meets_PopRemovesFinishedTop :
    (let s := (withStack ready [entryOf 9 40, entryOf 7 3]).finish (.reported .complete)
     s.unit.finished = .reported .complete ∧ s.arbiter.stack = [entryOf 9 40, entryOf 7 3] ∧ s.arbiter.pending = 0
     ∧ (entryOf 7 3).action = .stop)
    ∧ (let s := (withStack (footed ready .lh .loaded 0 0) [entryOf 25 100, entryOf 14 3]).finish (.reported .complete)
       (entryOf 14 3).action = .plant ∧ (entryOf 14 3).leg = some .lh ∧ s.monitor.legs.lh.contact = .loaded)
    ∧ (let a := (pended (withStack ready [entryOf 25 100, entryOf 20 3]) [9]).arbiter
       IsCandidate a 9 ∧ ¬Takeable a 9 ∧ Takeable { a with stack := [entryOf 20 3], level := 4 } 9) := by
  unfold IsCandidate Takeable; decide +kernel

theorem test_meets_ReflexOffsetIsKneeSum :
    ReflexUnitLaw ready ∧ (∀ e ∈ ready.arbiter.stack, e.leg = some .lf → e.action ≠ .retract ∧ e.action ≠ .plant)
    ∧ ready.unit.reachHold.lf = 0 := ⟨ready_unitLaw, (by intro e h; cases h), rfl⟩

/-! ### The supervisor -/

/-- The requests and the report that wait for the supervisor. -/
def requested (s : State) : State :=
  { s with wires := { s.wires with walkRequests := 1, stopRequests := 1, safeRequests := [.fallCrouch], allParked := true } }

/-- WALKING on entry 0, every leg unparked; no bank of it has a swing window. -/
def walkingStill : State :=
  { ready with engine := { ready.engine with
      current := 0
      slots := .all { bank := 0, offset := 0, mirror := false, phase := 50000, swing := false, parked := none } } }

/-- Requests in each state: walking from standing and stopping, stopping from walking with LF unparked and its window not empty, and with
every leg on entry 0. The last clause: that stop goes on to STANDING. -/
theorem test_meets_WalkAndStopRequestsAct :
    0 < (requested standing).wires.walkRequests ∧ standing.balance.relevel = none ∧ standing.sup.op = .standing
    ∧ standing.sup.resetPending = false ∧ (stoppingAt 0).sup.op = .stopping ∧ State.reset.sup.op = .config
    ∧ 0 < (requested ready).wires.stopRequests ∧ ready.sup.op = .walking
    ∧ ready.playing .lf = true ∧ ready.engine.slots.lf.parked = none
    ∧ (ready.header ready.engine.slots.lf.bank).emptyWindow = false
    ∧ 0 < (requested walkingStill).wires.stopRequests ∧ walkingStill.sup.op = .walking
    ∧ (∀ l ∈ LegId.all, walkingStill.playing l = true ∧ (walkingStill.engine.slots.get l).parked = none
        ∧ (walkingStill.header (walkingStill.engine.slots.get l).bank).emptyWindow = true)
    ∧ (after .stopRequest (requested walkingStill)).sup.op = .standing := by decide +kernel

/-- Everything parked in STOPPING, with an empty stack and with an unfinished STOP, over another entry too, with and without a pending
gait and a pending reset; and STOPPING with LF unparked. -/
theorem test_meets_AllParkedEntersStanding :
    (let s : State := requested { standing with sup := { standing.sup with op := .stopping } }
     s.wires.allParked = true ∧ s.sup.op = .stopping ∧ s.everyPlayingParked = true ∧ s.sup.resetPending = false
     ∧ s.arbiter.stack = [] ∧ s.arbiter.pending = 0 ∧ s.engine.pendingGait = none
     ∧ slotMember (s.gait 6) s.sup.modes .lf = some (⟨1, 100⟩, false))
    ∧ (let s := withStack standing [entryOf 7 2]
       s.arbiter.stack = [entryOf 7 2] ∧ (entryOf 7 2).action = .stop ∧ s.unit.finished = .clear)
    ∧ (let s := resetting (withStack { standing with sup := { standing.sup with op := .stopping } } [entryOf 7 2, entryOf 14 9])
       s.sup.op = .stopping ∧ s.everyPlayingParked = true ∧ s.sup.resetPending = true
       ∧ s.arbiter.stack = [entryOf 7 2, entryOf 14 9])
    ∧ ((stoppingAt 0).sup.op = .stopping ∧ (stoppingAt 0).everyPlayingParked = false)
    ∧ ready.sup.op ≠ .stopping := by decide +kernel

/-- FALL's CROUCH on top with two PLANTs of one leg beneath it; a HOLD of DRIVE-FAULT; and CONFIG. -/
theorem test_meets_SafeRequestEntersSafe :
    (let a : Entry := { entryOf 14 3 with reach := 30 }
     let b : Entry := { entryOf 18 2 with reach := 20 }
     let s := requested (withStack ready [entryOf 4 200, a, b])
     .fallCrouch ∈ s.wires.safeRequests ∧ s.sup.op.isLive = true ∧ s.sup.resetPending = false
     ∧ (resetting s).sup.op.isLive = true ∧ (resetting s).sup.resetPending = true
     ∧ s.arbiter.stack.head?.map Entry.line = some 4
     ∧ (s.arbiter.stack.filter fun e => e.action = .plant ∧ e.leg = some .lh) = [a, b])
    ∧ (withStack ready [entryOf 1 20]).arbiter.stack.head?.map Entry.line = some (LegId.num .rf)
    ∧ (requested State.reset).sup.op.isLive = false := by decide +kernel

/-- A frame that a busy processor holds. -/
theorem busy_with (s : State) (query : Bool) (code : Byte) (args : List Byte) (c : Command)
    (h : readCommand ⟨query, code :: 7 :: args⟩ = some c) :
    (busy s query code args).busyWith c ⟨query, code :: 7 :: args⟩ := ⟨rfl, h⟩

/-- RESET in every state, and a pending reset in STOPPING at its limit and one short of it. -/
theorem test_meets_ResetAppliesOrWaits :
    (∀ s, (busy s false 20 []).busyWith .reset ⟨false, [20, 7]⟩)
    ∧ State.reset.sup.op = .config ∧ ready.sup.op = .walking ∧ (stoppingAt 0).sup.op = .stopping
    ∧ (stoppingAt 0).sup.resetPending = false
    ∧ ready.playing .lf = true ∧ ready.engine.slots.lf.parked = none
    ∧ (ready.header ready.engine.slots.lf.bank).emptyWindow = false
    ∧ (walkingStill.sup.op = .walking
       ∧ ∀ l ∈ LegId.all, (walkingStill.header (walkingStill.engine.slots.get l).bank).emptyWindow = true)
    ∧ standing.sup.op = .standing ∧ (safe .crouch).sup.op = .safe
    ∧ (let s : State := { stoppingAt 0 with sup := { (stoppingAt 0).sup with resetPending := true, quiesce := 4000 } }
       s.sup.resetPending = true ∧ s.sup.op = .stopping ∧ s.sup.quiesce = 4000) := by
  exact ⟨fun s => busy_with s false 20 [] .reset (by decide), by decide +kernel⟩

/-- RELEASE and RESUME, ready and not; and a RELEASE ready with two legs FAULTED. -/
theorem test_meets_ReleaseAndResumeStartStanding :
    (∀ s, (busy s false 17 []).busyWith .release ⟨false, [17, 7]⟩)
    ∧ (∀ s, (busy s false 19 []).busyWith .resume ⟨false, [19, 7]⟩)
    ∧ (config.sup.op = .config ∧ legal (config.gait config.engine.current) config.sup.modes = true ∧ config.ring.up = true
       ∧ (∀ l ∈ LegId.all, (config.limits.get l).isSome = true ∧ config.ring.lastFresh.get l = true)
       ∧ faultedCount config.sup.modes ≤ 1)
    ∧ ((safe .crouch).sup.op = .safe ∧ legal ((safe .crouch).gait 3) (safe .crouch).sup.modes = true
       ∧ (safe .crouch).ring.up = true ∧ faultedCount (safe .crouch).sup.modes = 0)
    ∧ (let s := withModes config ⟨.faulted, .faulted, .active, .active⟩
       s.sup.op = .config ∧ legal (s.gait s.engine.current) s.sup.modes = true ∧ s.ring.up = true
       ∧ 2 ≤ faultedCount s.sup.modes ∧ s.arbiter.stack = [] ∧ s.sup.resetPending = false
       ∧ (∀ l ∈ LegId.all, (s.limits.get l).isSome = true ∧ s.ring.lastFresh.get l = true))
    ∧ State.reset.limits.lf = none
    ∧ faultedCount (withModes (safe .crouch) ⟨.faulted, .active, .active, .active⟩).sup.modes = 1 := by
  exact ⟨fun s => busy_with s false 17 [] .release (by decide), fun s => busy_with s false 19 [] .resume (by decide),
    by decide +kernel⟩

/-- CONFIG on entry 0 with RH STOWED, as a soft reset leaves it. -/
def stowedReset : State := withModes State.reset ⟨.active, .active, .active, .stowed⟩

theorem stowedReset_profileLaw : ProfileLaw stowedReset := by
  have hn : ∀ b : Fin 64, stowedReset.inUse b = true → (stowedReset.bank b).isReady = true := by decide +kernel
  have hb : ∀ b : Fin 64, stowedReset.bank b = .empty ∨ stowedReset.bank b = .ready standProfile
      ∨ stowedReset.bank b = .ready crouchProfile := by decide +kernel
  refine ⟨?_, ?_, by decide +kernel, by decide +kernel, by decide +kernel, by decide +kernel, (by intro g h; cases h)⟩
  · intro b h
    by_cases hlt : b < 64
    · exact hn ⟨b, hlt⟩ h
    · have hg : stowedReset.gaits.toList = some builtInGait :: List.replicate 15 Option.none := by decide +kernel
      have hs : (stowedReset.engine.slots.toList.map Slot.bank) = [0, 0, 0, 0] := by decide +kernel
      have h1 : (stowedReset.engine.slots.toList.any fun sl => sl.bank == b) = false := by
        have : (stowedReset.engine.slots.toList.any fun sl => sl.bank == b)
            = ((stowedReset.engine.slots.toList.map Slot.bank).any fun n => n == b) := by simp [List.any_map, Function.comp_def]
        rw [this, hs]; simp; omega
      have hc : stowedReset.gait stowedReset.engine.current = some builtInGait := by decide +kernel
      have hp : stowedReset.engine.pendingGait = Option.none := rfl
      have n0 : builtInGait.names b = false := by
        simp [Gait.names, Gait.members, builtInGait, PerLeg.all, PerLeg.toList]; omega
      simp [State.inUse, h1, hg, hc, hp, n0, List.replicate] at h
  · intro b
    by_cases hlt : b < 64
    · rcases hb ⟨b, hlt⟩ with h | h | h <;> simp only at h <;> rw [h]
      · trivial
      · exact stand_good
      · exact crouch_good
    · simp [State.bank, Vector.getElem?_eq_none (show 64 ≤ b by omega), Bank.good]

theorem stowedReset_slotLaw : SlotLaw stowedReset := by
  refine ⟨?_, ?_, (by intro h; cases h), (by intro h; exact absurd rfl h), (by intro g h; cases h)⟩
  · intro l; cases l <;> first | rfl | exact ⟨rfl, rfl, rfl⟩
  · intro l; cases l <;> exact ⟨rfl, rfl⟩

/-- SET-LEG-MODE of RH to STOWED on entry 5, of a second leg out, and on an illegal entry; one that keeps entry 3 with every leg playing
the same member; and one that brings RH back in on the current entry. -/
theorem test_meets_SetLegModeSetsModeAndGait :
    (∀ s, (busy s false 12 [3, 1, 5]).busyWith .setLegMode ⟨false, [12, 7, 3, 1, 5]⟩)
    ∧ (let f : CmdFrame := ⟨false, [12, 7, 3, 1, 5]⟩
       let after := standing.sup.modes.set .rh .stowed
       u8 f.args 0 = LegId.num .rh ∧ u8 f.args 1 = Mode.code .stowed ∧ u8 f.args 2 ≤ 15 ∧ outCount after ≤ 1
       ∧ legal (standing.gait (u8 f.args 2)) after = true ∧ legal (standing.gait 3) after = false
       ∧ slotMember (standing.gait 5) after .lf = some (⟨12, 43690⟩, true)
       ∧ slotMember (standing.gait 5) after .rh = none
       ∧ 2 ≤ outCount (after.set .lf .strut))
    ∧ (let m := standing.sup.modes.set .rh .active
       standing.engine.current = 3 ∧ legal (standing.gait 3) m = true ∧ standing.playing .rh = true
       ∧ slotMember (standing.gait 3) m .rh = some (⟨standing.engine.slots.rh.bank, standing.engine.slots.rh.offset⟩, false))
    ∧ (let s := stowedReset
       s.sup.op = .config ∧ s.playing .rh = false ∧ s.engine.current = 0
       ∧ legal (s.gait 0) (s.sup.modes.set .rh .active) = true
       ∧ slotMember (s.gait 0) (s.sup.modes.set .rh .active) .rh = some (⟨0, 0⟩, false))
    ∧ ProfileLaw stowedReset ∧ SlotLaw stowedReset := by
  exact ⟨fun s => busy_with s false 12 [3, 1, 5] .setLegMode (by decide), by decide +kernel, by decide +kernel, by decide +kernel,
    stowedReset_profileLaw, stowedReset_slotLaw⟩

/-! ### The planner link -/

/-- A frame arrived, given as it is sent. -/
def arrived (s : State) (kind : Byte) (payload : List Byte) : State :=
  { s with wires := { s.wires with arrived := [(envelope kind payload).drop 1] } }

/-- A stride payload: rate 1024, amplitude 200, turn 20, forward, some flags and gait. -/
def stride (flags gait : Byte) : List Byte := [4, 0, 0, 200, 0, 20, 0, flags, gait, 0, 210, 0, 0, 60]

/-- HUNTING, and payloads of 0 and of 120 bytes. -/
theorem test_meets_FrameSurvivesTheEnvelope :
    State.reset.link.rx = .hunting ∧ ([] : List Byte).length ≤ 120 ∧ (List.replicate 120 (0 : Byte)).length ≤ 120
    ∧ (stride 0 255).length = 14 := by decide

/-- A bad CRC, a bridge kind, a short stride frame, a setup frame of one byte; and lengths of 120 and 121. -/
theorem test_meets_BytesAndFramesAreDropped :
    (arrivedCrcGood [2, 2, 1, 1, 0, 0] = false)
    ∧ (let bs := (envelope 0x81 [1, 2]).drop 1; u8 bs 1 ≠ 1 ∧ u8 bs 1 ≠ 2 ∧ u8 bs 1 ≠ 3)
    ∧ (let bs := (envelope 1 [1, 2]).drop 1; u8 bs 1 = 1 ∧ u8 bs 0 ≠ 14)
    ∧ (let bs := (envelope 2 [1]).drop 1; u8 bs 1 = 2 ∧ u8 bs 0 < 2)
    ∧ (121 : Byte).toNat > 120 ∧ (120 : Byte).toNat ≤ 120 ∧ State.reset.link.rx = .hunting := by decide +kernel

/-- Stride frames in CONFIG, in SAFE, and under a pending reset; and one taken in STANDING, in WALKING with a stop, with references. -/
theorem test_meets_StrideFrameIgnoredOrTaken :
    (∀ flags ∈ ([0, 1, 2] : List Byte), judge ((envelope 1 (stride flags 255)).drop 1) = .stride (stride flags 255))
    ∧ State.reset.sup.op = .config ∧ (safe .freeze).sup.op = .safe
    ∧ ((stoppingAt 0).sup.op = .stopping ∧ (u8 (stride 0 255) 7).testBit 0 = false ∧ u16 (stride 0 255) 0 ≠ 0)
    ∧ u8 (stride 0 255) 8 = 255 ∧ standing.sup.op = .standing ∧ ready.sup.op = .walking
    ∧ (u8 (stride 2 255) 7).testBit 1 = true := by decide +kernel

/-- A legal other entry, the current entry, an UNDEFINED entry, and entry 16. -/
theorem test_meets_StrideFrameNamesGait :
    judge ((envelope 1 (stride 0 6)).drop 1) = .stride (stride 0 6)
    ∧ u8 (stride 0 6) 8 ≠ 255 ∧ (u8 (stride 0 6) 7).testBit 1 = false ∧ ready.engine.current = 3
    ∧ legal (ready.gait 6) ready.sup.modes = true ∧ legal (ready.gait 9) ready.sup.modes = false
    ∧ u8 (stride 0 3) 8 = ready.engine.current ∧ 16 ≤ u8 (stride 0 16) 8
    ∧ slotMember (ready.gait 6) ready.sup.modes .lf = some (⟨1, 100⟩, false) := by decide +kernel

/-- A setup frame with room in the inbox, with none but a free reply entry, and with neither; and a frame taken. -/
theorem test_meets_SetupFrameJoinsInboxAndIsTaken :
    let f : CmdFrame := ⟨false, [17, 7]⟩
    let r : Reply := ⟨6, 1, .done, []⟩
    judge ((envelope 2 [17, 7]).drop 1) = .command f
    ∧ State.reset.link.inbox.length < 4 ∧ 4 ≤ (List.replicate 4 f).length
    ∧ (List.replicate 6 r).length + true.toNat < 8 ∧ 8 ≤ (List.replicate 7 r).length + true.toNat
    ∧ State.reset.link.busy = none ∧ (busy State.reset false 17 []).link.busy.isSome = true := by decide +kernel

/-- A status image not due, due and off; and each item a transmitter can take and finish. -/
theorem test_meets_StatusImagesAndTransmission :
    let s : State := { ready with wires := { ready.wires with statusReturns := 1 } }
    let at_ (n : Nat) : State := { s with link := { s.link with statusCount := n } }
    0 < s.wires.statusReturns ∧ (at_ 8).link.statusCount + 1 < s.link.interval
    ∧ (at_ 9).link.statusCount + 1 = s.link.interval ∧ ({ s.link with interval := 0 } : Link).interval = 0
    ∧ s.link.sending = none ∧ s.link.replies = [] ∧ s.link.alerts = [] ∧ s.link.statusBuf = none
    ∧ s.image.resetDone = true ∧ s.image.resetEpoch = s.sup.resetEpoch ∧ s.image.alertsDropped = false
    ∧ ({ s.image with alertsDropped := true } : StatusImage).dropEpoch = s.link.dropEpoch := by decide +kernel

/-- An alert with a match, one without and with room, and one without and with no room. -/
theorem test_meets_PostedAlertMergesQueuesOrDrops :
    let a := newAlert .badGait .none .none 1 9
    let others := (List.range 16).map fun n => newAlert .detected (.line n) .none 0 0
    (∀ x ∈ others, ¬(x.kind = a.kind ∧ x.key = a.key)) ∧ 16 ≤ others.length ∧ (others.take 15).length < 16
    ∧ (newAlert .badGait .none .none 0 8).kind = a.kind ∧ (newAlert .badGait .none .none 0 8).key = a.key := by
  decide +kernel

/-! ### Setup commands and queries -/

/-- Banks 1, 2, 63 and 64; a bank in use; a part into a FILLING bank that leaves it FILLING and one that completes it. -/
theorem test_meets_BankIsOpenedAndFilled :
    let head : List Byte := [13, 0, 0xA0, 0, 0xE0, 0, 0xB0, 0, 6, 11, 6]
    let f : CmdFrame := ⟨false, 2 :: 7 :: head⟩
    (∀ s, ∀ b, (busy s false 1 [b]).busyWith .openBank ⟨false, [1, 7, b]⟩)
    ∧ (∀ s, (busy s false 2 head).busyWith .writePart f)
    ∧ config.inUse 12 = true ∧ config.inUse 2 = false ∧ config.inUse 63 = false
    ∧ headerArg f.args = some bank12.header
    ∧ fwd bank12.header.liftoff bank12.header.refresh < fwd bank12.header.liftoff bank12.header.touchdown
    ∧ (let s := config.setBank 13 (.filling none (.all (some (List.replicate 32 0))))
       s.bank 13 = .filling none (.all (some (List.replicate 32 0))))
    ∧ config.bank 2 = .empty ∧ config.bank 12 = .ready bank12 := by
  refine ⟨fun s b => busy_with s false 1 [b] .openBank (by rfl), fun s => ⟨rfl, by decide⟩, ?_⟩
  decide +kernel

/-- Entries 1 and 15, held and not; banks READY and not; UNDEFINE-GAIT. -/
theorem test_meets_GaitEntryIsDefined :
    let args (n bank : Byte) : List Byte := [n, 1, bank, 0, 0, bank, 0x55, 0x55, bank, 0xAA, 0xAA]
    (∀ s, ∀ n ∈ ([1, 15] : List Byte), (busy s false 3 (args n 12)).busyWith .defineGait ⟨false, 3 :: 7 :: args n 12⟩)
    ∧ (∀ s, (busy s false 4 [15]).busyWith .undefineGait ⟨false, [4, 7, 15]⟩)
    ∧ ready.engine.current = 3 ∧ ready.engine.current ≠ 15 ∧ ready.engine.pendingGait ≠ some 15
    ∧ (ready.bank 12).isReady = true ∧ (ready.bank 13).isReady = false := by
  refine ⟨fun s n h => ⟨rfl, ?_⟩, fun s => ⟨rfl, by decide⟩, by decide +kernel⟩
  fin_cases h <;> decide

/-- Each command of the rest states with values at the ends of their ranges. -/
theorem test_meets_SettingsOfRestStates :
    let bands : List Byte := [0, 1, 0, 2, 0x01, 0xB4]
    let contact : List Byte := [0x07, 0xD0, 0x07, 0xCF, 1, 8, 0x80, 0, 0, 0, 0, 0, 0, 20, 15, 1, 0xFD, 0xE8]
    let tilt : List Byte := [0, 200, 0, 200]
    let walk : List Byte := [8, 0, 0, 1, 0, 1, 1, 0, 64, 0x03, 0xE8]
    (∀ s, (busy s false 7 bands).busyWith .setBands ⟨false, 7 :: 7 :: bands⟩)
    ∧ (∀ s, (busy s false 8 contact).busyWith .setContact ⟨false, 8 :: 7 :: contact⟩)
    ∧ (∀ s, (busy s false 11 tilt).busyWith .setTilt ⟨false, 11 :: 7 :: tilt⟩)
    ∧ (∀ s, (busy s false 15 walk).busyWith .setWalk ⟨false, 15 :: 7 :: walk⟩)
    ∧ (∀ s, (busy s false 18 []).busyWith .relevel ⟨false, [18, 7]⟩)
    ∧ u16 bands 4 = 436 ∧ ContactSettings.good (contactArg contact) = true ∧ u16 tilt 0 = 200
    ∧ WalkSettings.good (walkArg walk) = true
    ∧ State.reset.sup.op = .config ∧ standing.sup.op = .standing ∧ ready.sup.op = .walking
    ∧ State.reset.monitor.settings.maxAge = 20000 ∧ State.reset.monitor.legs.lf.age = 20000 := by
  refine ⟨fun s => ⟨rfl, by decide⟩, fun s => ⟨rfl, by decide⟩, fun s => ⟨rfl, by decide⟩, fun s => ⟨rfl, by decide⟩,
    fun s => ⟨rfl, by decide⟩, ?_⟩
  decide +kernel

/-- The commands of CONFIG with values at the ends of their ranges. -/
theorem test_meets_SettingsOfConfig :
    let joint : List Byte := [0xF3, 0xBB, 0x0C, 0x45, 0, 0, 0, 0, 200, 0x0B, 0xB8]
    let limits : List Byte := 3 :: (joint ++ joint ++ joint)
    (∀ s, (busy s false 5 limits).busyWith .setLimits ⟨false, 5 :: 7 :: limits⟩)
    ∧ (∀ s, (busy s false 13 [5, 4, 3, 2, 1]).busyWith .setLegMap ⟨false, [13, 7, 5, 4, 3, 2, 1]⟩)
    ∧ (∀ s, (busy s false 14 [80, 1, 15]).busyWith .setRing ⟨false, [14, 7, 80, 1, 15]⟩)
    ∧ (limitsArg limits).toList.all JointLimits.good = true ∧ (limitsArg limits).ab.min = -3141
    ∧ State.reset.sup.op = .config ∧ standing.sup.op ≠ .config := by
  refine ⟨fun s => ⟨rfl, by decide⟩, fun s => ⟨rfl, by decide⟩, fun s => ⟨rfl, by decide⟩, ?_⟩
  decide +kernel

/-- The commands of every state; a SET-REFLEX that disables the only source with a pending line, a SET-ARBITER that lets a waiting line
through, and a SET-REFLEX that raises a waiting line's priority above the level. -/
theorem test_meets_SettingsOfEveryState :
    let gains : List Byte := 3 :: List.replicate 30 0
    let slip : List Byte := [5, 0, 7, 0, 0x0F, 0xFF, 0x03, 0xFF]
    (∀ s, (busy s false 6 gains).busyWith .setGains ⟨false, 6 :: 7 :: gains⟩)
    ∧ (∀ s, (busy s false 16 [0, 255]).busyWith .setStatus ⟨false, [16, 7, 0, 255]⟩)
    ∧ (∀ s, (busy s false 10 [0]).busyWith .setArbiter ⟨false, [10, 7, 0]⟩)
    ∧ (∀ s, (busy s false 9 [8, 0, 20]).busyWith .setReflex ⟨false, [9, 7, 8, 0, 20]⟩)
    ∧ (∀ s, (busy s false 9 slip).busyWith .setReflex ⟨false, 9 :: 7 :: slip⟩)
    ∧ (∀ s, (busy s false 21 []).busyWith .clearPending ⟨false, [21, 7]⟩)
    ∧ u16 [8, 0, 20] 1 = 20 ∧ ready.arbiter.pending = 0
    ∧ sourceArg (u8 slip 0) = some .slip ∧ u16 slip 4 = 4095 ∧ u16 slip 6 = 1023 ∧ actionArg (u8 slip 3) = some .hold
    ∧ (let a : Arbiter := { powerOnArbiter with pending := BitVec.twoPow 32 20 }
       (List.range 32).all (fun n => !a.isPending n || lineSource n == .slip) = true)
    ∧ (let a := { (pended (withStack ready [entryOf 20 3]) [9]).arbiter with nesting := false }
       IsCandidate a 9 ∧ ¬Takeable a 9 ∧ Takeable { a with nesting := true } 9)
    ∧ (let a := (pended (withStack ready [entryOf 14 3]) [20]).arbiter
       IsCandidate a 20 ∧ ¬Takeable a 20
       ∧ Takeable { a with sources := { a.sources with slip := { a.sources.slip with priority := 7 } } } 20) := by
  unfold IsCandidate Takeable
  refine ⟨fun s => ⟨rfl, by decide⟩, fun s => ⟨rfl, by decide⟩, fun s => ⟨rfl, by decide⟩, fun s => ⟨rfl, by decide⟩,
    fun s => ⟨rfl, by decide⟩, fun s => ⟨rfl, by decide⟩, ?_⟩
  decide +kernel

/-- Each query, at the ends of its index's range; banks of each state. -/
theorem test_meets_QueriesReportTheState :
    (∀ s, (busy s true 64 [63]).busyWith .readBank ⟨true, [64, 7, 63]⟩)
    ∧ (∀ s, (busy s true 65 [63, 3]).busyWith .readPart ⟨true, [65, 7, 63, 3]⟩)
    ∧ (∀ s, (busy s true 66 [15]).busyWith .readGait ⟨true, [66, 7, 15]⟩)
    ∧ (∀ s, (busy s true 67 [1, 3]).busyWith .readTable ⟨true, [67, 7, 1, 3]⟩)
    ∧ (∀ s, (busy s true 67 [7]).busyWith .readTable ⟨true, [67, 7, 7]⟩)
    ∧ (∀ s, (busy s true 68 [3]).busyWith .readLeg ⟨true, [68, 7, 3]⟩)
    ∧ (∀ s, (busy s true 69 []).busyWith .identify ⟨true, [69, 7]⟩)
    ∧ config.bank 63 = .empty ∧ config.bank 12 = .ready bank12
    ∧ (after .openBank (busy config false 1 [63])).bank 63 = .filling none (.all none)
    ∧ config.gait 15 = none ∧ config.gait 5 = some entry5 ∧ (3 : Byte).toNat = LegId.num .rh := by
  refine ⟨fun s => ⟨rfl, by decide⟩, fun s => ⟨rfl, by decide⟩, fun s => ⟨rfl, by decide⟩, fun s => ⟨rfl, by decide⟩,
    fun s => ⟨rfl, by decide⟩, fun s => ⟨rfl, by decide⟩, fun s => ⟨rfl, by decide⟩, ?_⟩
  decide +kernel

/-- A frame that is not well formed (a query code in a setup frame), a well-formed one; with and without the reservation. -/
theorem test_meets_EveryFrameIsAnsweredOnce :
    (busy State.reset false 69 []).link.busy = some ⟨false, [69, 7]⟩
    ∧ readCommand ⟨false, [69, 7]⟩ = none ∧ readCommand ⟨true, [69, 7]⟩ = some .identify
    ∧ (busy State.reset false 69 []).link.reserved = true := by decide +kernel

/-- Arguments of each length. -/
theorem test_meets_SettingsReadBackAsWritten :
    (List.replicate 11 (0 : Byte)).length = 11 ∧ (List.replicate 18 (0 : Byte)).length = 18
    ∧ (List.replicate 34 (0 : Byte)).length = 34 ∧ (List.replicate 31 (0 : Byte)).length = 31
    ∧ (List.replicate 66 (0 : Byte)).length = 66
    ∧ headerArg [12, 0, 0xA0, 0, 0xE0, 0, 0xB0, 0, 6, 11, 6] = some bank12.header
    ∧ gaitArg [3, 0, 12, 0, 0, 12, 0x80, 0, 12, 0x80, 0, 12, 0, 0] = some entry3
    ∧ (reflexArg .slip [5, 1, 4, 0, 0, 30, 0, 0]) = some defaultSources.slip := by decide +kernel

end Sys2Proof.Tests
end

section
/-!
The gait table (R12, R13): what a check list and a replaced entry give, the members a DEFINE-GAIT carries, and with them what
DEFINE-GAIT and UNDEFINE-GAIT do to the table.
-/

namespace Sys2Proof.Machine

/-! ## Checks in their order (R174) -/

@[simp] theorem checked_nil (s : State) (f : CmdFrame) (a : State) : s.checked f [] a = a.reply f .done [] := rfl

@[simp] theorem checked_cons (s : State) (f : CmdFrame) (bad : Bool) (code : ReplyCode) (rest : List (Bool × ReplyCode))
    (a : State) :
    s.checked f ((bad, code) :: rest) a = if bad then s.refuse f code else s.checked f rest a := by
  cases bad <;> rfl

/-! ## An entry of the table -/

theorem State.entryHeld_iff (s : State) (n : Nat) :
    s.entryHeld n = true ↔ s.engine.current = n ∨ s.engine.pendingGait = some n := by
  simp [State.entryHeld]

theorem State.gait_setGait_same (s : State) {n : Nat} (g : Option Gait) (h : n < 16) : (s.setGait n g).gait n = g := by
  simp [State.gait, State.setGait, h]

theorem State.gait_setGait_ne (s : State) {n m : Nat} (g : Option Gait) (h : m ≠ n) :
    (s.setGait n g).gait m = s.gait m := by
  simp [State.gait, State.setGait, h.symm]

/-- A replaced entry answered DONE: the entry holds what it was given, no other entry changes, and outside the table only the link
does. -/
theorem reply_setGait (s : State) (f : CmdFrame) {n : Nat} (g : Option Gait) (h : n < 16) :
    let t := (s.setGait n g).reply f .done []
    t.gait n = g ∧ (∀ m, m ≠ n → t.gait m = s.gait m)
      ∧ t = { s with gaits := t.gaits, link := (s.reply f .done []).link } :=
  ⟨s.gait_setGait_same g h, fun _ hm => s.gait_setGait_ne g hm, rfl⟩

/-! ## The members that a DEFINE-GAIT carries (R12, R192) -/

/-- The kind and members of a DEFINE-GAIT whose kind is one of the three (`gaitArg_of_kind`). -/
def gaitOf (a : List Byte) : Gait :=
  if u8 a 1 = 0 then .quad ⟨memberArg a 0, memberArg a 1, memberArg a 2, memberArg a 3⟩
  else if u8 a 1 = 1 then .triF (memberArg a 0) (memberArg a 1) (memberArg a 2)
  else .triH (memberArg a 0) (memberArg a 1) (memberArg a 2)

theorem gaitArg_of_kind {a : List Byte} (h : u8 a 1 ≤ 2) : gaitArg a = some (gaitOf a) := by
  have hk : u8 a 1 = 0 ∨ u8 a 1 = 1 ∨ u8 a 1 = 2 := by omega
  obtain hk | hk | hk := hk <;> simp [gaitArg, gaitOf, hk]

theorem gaitArg_eq_none {a : List Byte} (h : 2 < u8 a 1) : gaitArg a = none := by
  unfold gaitArg; split <;> [omega; omega; omega; rfl]

/-- How many members a DEFINE-GAIT carries: four for a QUAD, three for the other kinds. -/
def memberCount (a : List Byte) : Nat := if u8 a 1 = 0 then 4 else 3

theorem members_gaitOf (a : List Byte) : (gaitOf a).members = (List.range (memberCount a)).map (memberArg a) := by
  unfold gaitOf memberCount
  split
  · rfl
  · split <;> rfl

theorem exists_mem_gaitOf (a : List Byte) (p : Member → Prop) :
    (∃ m ∈ (gaitOf a).members, p m) ↔ ∃ i, i < memberCount a ∧ p (memberArg a i) := by
  simp only [members_gaitOf, List.mem_map, List.mem_range, exists_exists_and_eq_and]

/-! ## The two commands -/

/-- A DEFINE-GAIT of none of the three kinds is out of RANGE. -/
theorem defineGait_of_bad_kind {s : State} {f : CmdFrame} (hb : s.busyWith .defineGait f) (hk : 2 < u8 f.args 1) :
    exec .defineGait s = .next (s.refuse f .range) := by
  calc exec .defineGait s = execDefineGait s := rfl
    _ = .next (s.refuse f .range) := by
      rw [execDefineGait, completing_of_busy hb]
      simp [gaitArg_eq_none hk]

/-- A DEFINE-GAIT of one of the three kinds: R12's checks in their order, over the members it carries. -/
theorem defineGait_of_kind {s : State} {f : CmdFrame} (hb : s.busyWith .defineGait f) (hk : u8 f.args 1 ≤ 2) :
    exec .defineGait s = .next
      (if u8 f.args 0 = 0 ∨ 15 < u8 f.args 0 ∨ ∃ m ∈ (gaitOf f.args).members, 63 < m.bank then s.refuse f .range
        else if s.engine.current = u8 f.args 0 ∨ s.engine.pendingGait = some (u8 f.args 0) then s.refuse f .inUse
        else if ∃ m ∈ (gaitOf f.args).members, (s.bank m.bank).isReady = false then s.refuse f .notReady
        else (s.setGait (u8 f.args 0) (some (gaitOf f.args))).reply f .done []) := by
  calc exec .defineGait s = execDefineGait s := rfl
    _ = _ := by
      rw [execDefineGait, completing_of_busy hb]
      simp only [gaitArg_of_kind hk, Option.map_some, Option.getD_some, Option.isNone_some, checked_cons, checked_nil,
        State.entryHeld_iff, List.any_eq_true, Bool.or_eq_true, beq_iff_eq, decide_eq_true_eq, Bool.not_eq_true',
        Bool.false_eq_true, or_false, or_assoc]

/-- UNDEFINE-GAIT: R13's checks in their order. -/
theorem undefineGait_eq {s : State} {f : CmdFrame} (hb : s.busyWith .undefineGait f) :
    exec .undefineGait s = .next
      (if u8 f.args 0 = 0 ∨ 15 < u8 f.args 0 then s.refuse f .range
        else if s.engine.current = u8 f.args 0 ∨ s.engine.pendingGait = some (u8 f.args 0) then s.refuse f .inUse
        else (s.setGait (u8 f.args 0) none).reply f .done []) := by
  calc exec .undefineGait s = execUndefineGait s := rfl
    _ = _ := by
      rw [execUndefineGait, completing_of_busy hb]
      simp only [checked_cons, checked_nil, State.entryHeld_iff, Bool.or_eq_true, beq_iff_eq, decide_eq_true_eq]

/-- Settles O54: each command is its checks in their order, then the entry replaced. -/
theorem gaitEntryIsDefined : Obligations.GaitEntryIsDefined := by
  intro s f
  refine ⟨fun hb => ⟨fun hbad => ?range, fun h1 h15 hk hbanks => ?inRange⟩,
    fun hb => ⟨fun hbad => ?undefRange, fun h1 h15 hheld => ?undefHeld, fun h1 h15 hfree => ?undefined⟩⟩
  case range =>
    by_cases hk : 2 < u8 f.args 1
    · exact defineGait_of_bad_kind hb hk
    · have hout : u8 f.args 0 = 0 ∨ 15 < u8 f.args 0 ∨ ∃ m ∈ (gaitOf f.args).members, 63 < m.bank := by
        obtain h | h | h | h := hbad
        · exact .inl h
        · exact .inr (.inl h)
        · exact absurd h hk
        · exact .inr (.inr ((exists_mem_gaitOf ..).mpr h))
      rw [defineGait_of_kind hb (Nat.le_of_not_lt hk), if_pos hout]
  case inRange =>
    have hin : ¬(u8 f.args 0 = 0 ∨ 15 < u8 f.args 0 ∨ ∃ m ∈ (gaitOf f.args).members, 63 < m.bank) := by
      rw [exists_mem_gaitOf]
      rintro (h | h | ⟨i, hi, h⟩)
      · omega
      · omega
      · exact absurd (hbanks i hi) (Nat.not_le.mpr h)
    rw [defineGait_of_kind hb hk, if_neg hin]
    refine ⟨fun hheld => ?_, fun hfree hwaiting => ?_, fun hfree hready => ?_⟩
    · rw [if_pos hheld]
    · have hany : ∃ m ∈ (gaitOf f.args).members, (s.bank m.bank).isReady = false := by
        rw [exists_mem_gaitOf]
        exact hwaiting
      rw [if_neg hfree, if_pos hany]
    · have hall : ¬∃ m ∈ (gaitOf f.args).members, (s.bank m.bank).isReady = false := by
        rw [exists_mem_gaitOf]
        rintro ⟨i, hi, h⟩
        exact Bool.false_ne_true (h.symm.trans (hready i hi))
      rw [if_neg hfree, if_neg hall]
      exact ⟨_, rfl, reply_setGait s f (some (gaitOf f.args)) (by omega)⟩
  case undefRange => rw [undefineGait_eq hb, if_pos hbad]
  case undefHeld => rw [undefineGait_eq hb, if_neg (by omega), if_pos hheld]
  case undefined =>
    rw [undefineGait_eq hb, if_neg (by omega), if_neg hfree]
    exact ⟨_, rfl, reply_setGait s f none (by omega)⟩

end Sys2Proof.Machine
end

section
/-!
Attitude and balance (chapter 4): R72's errors and R75's offset in closed form, and the legs that receive it (R76).
-/

namespace Sys2Proof.Machine

/-! ## The offset of a leg that receives balance (R72, R75) -/

theorem floorDiv_eq_ediv (a : Int) {b : Int} (hb : 0 ≤ b) : floorDiv a b = a / b :=
  Int.fdiv_eq_ediv_of_nonneg a hb

theorem frontSign_eq (l : LegId) : frontSign l = if l = .lf ∨ l = .rf then 1 else -1 := by
  cases l <;> rfl

theorem leftSign_eq (l : LegId) : leftSign l = if l = .lf ∨ l = .lh then 1 else -1 := by
  cases l <;> rfl

theorem Balance.pitchError_eq (b : Balance) :
    b.pitchError = if b.blind = true then 0 else max (-4095) (min 4095 (b.refPitch - b.heldPitch)) := by
  rw [Balance.pitchError, clampI_eq _ (by decide)]

theorem Balance.rollError_eq (b : Balance) :
    b.rollError = if b.blind = true then 0 else max (-4095) (min 4095 (b.refRoll - b.heldRoll)) := by
  rw [Balance.rollError, clampI_eq _ (by decide)]

/-- R75's sum is divided by 1024 and clamped to the authority of the band in use. -/
theorem Balance.offset_eq (b : Balance) (l : LegId) (j : JointId) :
    let g := (b.bands.get b.band).get j
    b.offset l j = max (-(g.authority : Int)) (min g.authority
      ((frontSign l * (g.kpPitch * b.pitchError - g.kdPitch * b.usedPitchRate)
        + leftSign l * (g.kpRoll * b.rollError - g.kdRoll * b.usedRollRate)) / 1024)) := by
  intro g
  rw [Balance.offset, clampI_eq _ (by omega), floorDiv_eq_ediv _ (by decide)]

theorem Balance.offset_bounds (b : Balance) (l : LegId) (j : JointId) :
    let g := (b.bands.get b.band).get j
    b.offset l j ≤ g.authority ∧ -(g.authority : Int) ≤ b.offset l j :=
  (clampI_bounds _ (by omega)).symm

/-! ## The legs that receive balance (R76) -/

/-- Outside CONFIG, a STRUT leg and an ACTIVE leg that is not in the swing of a stride. -/
theorem State.balanced_iff (s : State) (l : LegId) :
    s.balanced l = true ↔ s.sup.op ≠ .config ∧
      (s.sup.modes.get l = .strut
        ∨ s.sup.modes.get l = .active
          ∧ (s.sup.op = .standing ∨ s.sup.op = .safe ∨ (s.engine.slots.get l).swing = false)) := by
  unfold State.balanced
  cases s.sup.modes.get l with
  | stowed | faulted | strut => simp
  | active => cases s.sup.op <;> simp

theorem State.balanceOffset_of_balanced {s : State} {l : LegId} (h : s.balanced l = true) (j : JointId) :
    s.balanceOffset l j = s.balance.offset l j :=
  if_pos h

theorem State.balanceOffset_of_not_balanced {s : State} {l : LegId} (h : ¬s.balanced l = true) (j : JointId) :
    s.balanceOffset l j = 0 :=
  if_neg h

/-- The law of R76: 0 lies within every authority, so a leg without balance is no exception. -/
theorem State.balanceOffset_bounds (s : State) (l : LegId) (j : JointId) :
    let g := (s.balance.bands.get s.balance.band).get j
    s.balanceOffset l j ≤ g.authority ∧ -(g.authority : Int) ≤ s.balanceOffset l j := by
  intro g
  by_cases h : s.balanced l = true
  · rw [balanceOffset_of_balanced h]
    exact s.balance.offset_bounds l j
  · rw [balanceOffset_of_not_balanced h]
    omega

/-- Settles O25: the offset is within the authority by its clamp, and each remaining clause decides by `State.balanced_iff`
whether the leg receives R75's offset or 0. -/
theorem balanceOffsetWithinAuthority : Obligations.BalanceOffsetWithinAuthority := by
  intro s l j b g ep er wp wr fh lr offset
  have hoffset : s.balance.offset l j = offset := by
    rw [Balance.offset_eq, frontSign_eq, leftSign_eq, Balance.pitchError_eq, Balance.rollError_eq]
    rfl
  have received (h : s.balanced l = true) : s.balanceOffset l j = offset :=
    (State.balanceOffset_of_balanced h j).trans hoffset
  have withheld (h : ¬s.balanced l = true) : s.balanceOffset l j = 0 := State.balanceOffset_of_not_balanced h j
  obtain ⟨hhigh, hlow⟩ := s.balanceOffset_bounds l j
  rw [State.balanced_iff] at received withheld
  refine ⟨hhigh, hlow, fun hconfig => withheld ?config, fun hmode => withheld ?unsupporting,
    fun hop hactive hswing => withheld ?swing, fun hop hstrut => received ⟨hop, .inl hstrut⟩,
    fun hactive hop => received ⟨?live, .inr ⟨hactive, ?stance⟩⟩⟩
  case config => exact fun h => h.1 hconfig
  case unsupporting => obtain h | h := hmode <;> simp [h]
  case swing => obtain h | h := hop <;> simp [h, hactive, hswing]
  case live => obtain h | h | ⟨h | h, -⟩ := hop <;> simp [h]
  case stance => exact hop.imp_right (.imp_right And.right)

end Sys2Proof.Machine
end

section
/-!
The reflex offset (chapter 6, R113): an entry of another action carries no knee contribution, so the model's sum over every
entry of a leg is the sum over its RETRACT and PLANT entries; and the clamp keeps the knee within ±1023. Settles O38.
-/
namespace Sys2Proof.Machine

/-! ## The knee sum -/

/-- Where only RETRACT and PLANT entries carry a contribution, as `ReflexUnitLaw` says, only those of the leg count. -/
theorem contributions_eq_sum (l : LegId) (stack : List Entry)
    (idle : ∀ e ∈ stack, e.action ≠ .retract → e.action ≠ .plant → e.contribution = 0) :
    contributions stack l
      = ((stack.filter fun e => e.leg = some l ∧ (e.action = .retract ∨ e.action = .plant)).map Entry.contribution).sum := by
  induction stack with
  | nil => rfl
  | cons e rest ih =>
    obtain ⟨hidle, hrest⟩ := List.forall_mem_cons.mp idle
    have hsum : contributions (e :: rest) l = (if e.leg = some l then e.contribution else 0) + contributions rest l := rfl
    rw [hsum, ih hrest]
    by_cases hcarries : e.action = .retract ∨ e.action = .plant
    · by_cases hleg : e.leg = some l <;> simp [hleg, hcarries]
    · obtain ⟨hretract, hplant⟩ := not_or.mp hcarries
      simp [hidle hretract hplant, hretract, hplant]

/-! ## The offset of each joint -/

@[simp] theorem State.reflexOffset_ab (s : State) (l : LegId) : s.reflexOffset l .ab = 0 := rfl

@[simp] theorem State.reflexOffset_hf (s : State) (l : LegId) : s.reflexOffset l .hf = 0 := rfl

theorem State.reflexOffset_kn (s : State) (l : LegId) :
    s.reflexOffset l .kn = max (-1023) (min 1023 (contributions s.arbiter.stack l - (s.unit.reachHold.get l : Int))) :=
  clampI_eq _ (by decide)

/-- The law of R113. -/
theorem State.reflexOffset_bounds (s : State) (l : LegId) (j : JointId) :
    -1023 ≤ s.reflexOffset l j ∧ s.reflexOffset l j ≤ 1023 := by
  cases j with
  | ab | hf => simp
  | kn => exact clampI_bounds _ (by decide)

/-- Settles O38: under `ReflexUnitLaw` the knee sum is that of the leg's RETRACT and PLANT entries, and it is empty where the
leg has none. -/
theorem reflexOffsetIsKneeSum : Obligations.ReflexOffsetIsKneeSum := by
  intro s l ⟨_, _, _, hidle, _⟩
  have hknee := s.reflexOffset_kn l
  rw [contributions_eq_sum l _ hidle] at hknee
  refine ⟨s.reflexOffset_ab l, s.reflexOffset_hf l, hknee, fun hnone hhold j => ?_, s.reflexOffset_bounds l⟩
  have hempty : (s.arbiter.stack.filter fun e => e.leg = some l ∧ (e.action = .retract ∨ e.action = .plant)) = [] := by
    simpa [List.filter_eq_nil_iff] using hnone
  cases j with
  | ab | hf => simp
  | kn => rw [hknee, hempty, hhold]; rfl

end Sys2Proof.Machine
end

section
/-!
The setup inbox (chapter 10): what the link makes of a received setup or query frame (R166), and when the idle processor takes
the inbox's head (R167). Settles O49.
-/
namespace Sys2Proof.Machine

/-! ## The free reply entry (R166) -/

theorem Link.replyFree_iff (k : Link) : k.replyFree = true ↔ k.replies.length + k.reserved.toNat < 8 :=
  decide_eq_true_iff

/-! ## A received setup or query frame (R166) -/

theorem Link.receive_of_room {k : Link} (hroom : k.inbox.length < 4) (f : CmdFrame) :
    k.receive f = { k with inbox := k.inbox ++ [f] } :=
  if_pos hroom

theorem Link.receive_of_inbox_full {k : Link} (hfull : 4 ≤ k.inbox.length) (f : CmdFrame) :
    k.receive f
      = if k.replyFree then { k with replies := k.replies ++ [{ command := f.code, tag := f.tag, code := .full, data := [] }] }
        else k :=
  if_neg (Nat.not_lt.mpr hfull)

/-- The oldest arrived frame leaves the wire, and the rest is the link's: nothing outside the two changes. -/
theorem setupFrame_of_command {s : State} {bs : List Byte} {rest : List (List Byte)} {f : CmdFrame}
    (harrived : s.wires.arrived = bs :: rest) (hjudge : judge bs = .command f) :
    exec .setupFrame s = .next { s.dropArrived rest with link := s.link.receive f } := by
  calc exec .setupFrame s = execSetupFrame s := rfl
    _ = _ := by simp only [execSetupFrame, harrived, hjudge]

/-! ## The setup processor's take (R167) -/

theorem setupTake_of_idle {s : State} {f : CmdFrame} {rest : List CmdFrame} (hidle : s.link.busy = none)
    (hinbox : s.link.inbox = f :: rest) :
    exec .setupTake s
      = if s.link.replyFree then .next { s with link := { s.link with inbox := rest, reserved := true, busy := some f } }
        else .next s := by
  calc exec .setupTake s = execSetupTake s := rfl
    _ = _ := by simp only [execSetupTake, hidle, hinbox]

theorem setupTake_of_busy {s : State} (hbusy : s.link.busy.isSome = true) : exec .setupTake s = .next s := by
  obtain ⟨_, hbusy⟩ := Option.isSome_iff_exists.mp hbusy
  calc exec .setupTake s = execSetupTake s := rfl
    _ = .next s := by simp only [execSetupTake, hbusy]

theorem setupTake_of_inbox_empty {s : State} (hinbox : s.link.inbox = []) : exec .setupTake s = .next s := by
  cases hbusy : s.link.busy with
  | some _ => exact setupTake_of_busy (by simp [hbusy])
  | none =>
    calc exec .setupTake s = execSetupTake s := rfl
      _ = .next s := by simp only [execSetupTake, hbusy, hinbox]

/-- With no free reply entry nothing is taken, whatever the processor and the inbox hold. -/
theorem setupTake_of_replies_full {s : State} (hfull : ¬s.link.replyFree = true) : exec .setupTake s = .next s := by
  cases hinbox : s.link.inbox with
  | nil => exact setupTake_of_inbox_empty hinbox
  | cons f rest =>
    cases hbusy : s.link.busy with
    | some _ => exact setupTake_of_busy (by simp [hbusy])
    | none => rw [setupTake_of_idle hbusy hinbox, if_neg hfull]

/-- Settles O49: a command frame goes through `Link.receive`, whose three outcomes are split by the room in the inbox and among
the replies; a take needs an idle processor, a head and a free reply entry, and each one missing leaves the state as it was. -/
theorem setupFrameJoinsInboxAndIsTaken : Obligations.SetupFrameJoinsInboxAndIsTaken := by
  refine ⟨fun s bs rest f harrived hjudge => ?frame, fun s => ⟨fun f rest hidle hinbox hfree => ?taken, ?untaken⟩⟩
  case frame =>
    rw [setupFrame_of_command harrived hjudge]
    refine ⟨fun hroom => ?joins, fun hfull hfree => ?answered, fun hfull hnone => ?dropped⟩
    case joins => rw [Link.receive_of_room hroom]; rfl
    case answered => rw [Link.receive_of_inbox_full hfull, if_pos (s.link.replyFree_iff.mpr hfree)]; rfl
    case dropped => rw [Link.receive_of_inbox_full hfull, if_neg (by rw [Link.replyFree_iff]; omega)]; rfl
  case taken => rw [setupTake_of_idle hidle hinbox, if_pos (s.link.replyFree_iff.mpr hfree)]
  case untaken =>
    rintro (hbusy | hempty | hnone)
    · exact setupTake_of_busy hbusy
    · exact setupTake_of_inbox_empty hempty
    · exact setupTake_of_replies_full (by rw [Link.replyFree_iff]; omega)

end Sys2Proof.Machine
end

section
/-!
The laws of Sys2Proof/Safety.lean, kept by a change of the state: `Kept s t` says of two states that each law that holds of the first
holds of the second, and that the queue of commands stays. A law that speaks of nothing the change touches is filled in by
itself, so that the lemma about an operation
names only the laws that the operation can concern.
-/

namespace Sys2Proof.Machine

-- One proof after another: side by side they take more threads than the memory limit of the check allows.
set_option Elab.async false

/-! ## The supervisor's law in two parts -/

/-- A pending soft reset waits in STOPPING alone (R158). -/
def ResetWaits (s : State) : Prop := s.sup.resetPending = true → s.sup.op = .stopping

/-- The rest of `SupervisorLaw`: it holds also within a command, between an entry into STANDING or SAFE and the reset that is
applied upon it (R159). -/
def SupervisorCore (s : State) : Prop :=
  outCount s.sup.modes ≤ 1
  ∧ (s.sup.posture.isSome = true ↔ s.sup.op = .safe)
  ∧ s.sup.quiesce ≤ 4000
  ∧ (s.engine.pendingGait.isSome = true → s.sup.op.isMoving = true)

theorem supervisorLaw_iff (s : State) : SupervisorLaw s ↔ SupervisorCore s ∧ ResetWaits s := by
  unfold SupervisorLaw SupervisorCore ResetWaits
  tauto

/-! ## Laws kept -/

/-- Every law of the first state holds of the second, but for the wait of a pending reset; and the queue of commands is the same. -/
structure LawsKept (s t : State) : Prop where
  arbiter    : ArbiterLaw s → ArbiterLaw t := by exact id
  alerts     : AlertLaw s → AlertLaw t := by exact id
  link       : LinkLaw s → LinkLaw t := by exact id
  profile    : ProfileLaw s → ProfileLaw t := by exact id
  supervisor : SupervisorCore s → SupervisorCore t := by exact id
  slots      : ProfileLaw s → SupervisorCore s → SlotLaw s → SlotLaw t := by exact fun _ _ h => h
  rate       : RateLaw s → RateLaw t := by exact id
  monitor    : MonitorLaw s → MonitorLaw t := by exact id
  balance    : BalanceLaw s → BalanceLaw t := by exact id
  reflexUnit : ReflexUnitLaw s → ReflexUnitLaw t := by exact id
  drive      : DriveLaw s → DriveLaw t := by exact id
  ring       : RingLaw s → RingLaw t := by exact id
  queue      : t.pending = s.pending := by exact rfl

/-- Every law of the first state holds of the second, and the queue of commands is the same. -/
structure Kept (s t : State) : Prop extends LawsKept s t where
  reset : ResetWaits s → ResetWaits t := by exact id

theorem LawsKept.trans {s t u : State} (h : LawsKept s t) (k : LawsKept t u) : LawsKept s u where
  arbiter := k.arbiter ∘ h.arbiter
  alerts := k.alerts ∘ h.alerts
  link := k.link ∘ h.link
  profile := k.profile ∘ h.profile
  supervisor := k.supervisor ∘ h.supervisor
  slots := fun hp hs hl => k.slots (h.profile hp) (h.supervisor hs) (h.slots hp hs hl)
  rate := k.rate ∘ h.rate
  monitor := k.monitor ∘ h.monitor
  balance := k.balance ∘ h.balance
  reflexUnit := k.reflexUnit ∘ h.reflexUnit
  drive := k.drive ∘ h.drive
  ring := k.ring ∘ h.ring
  queue := k.queue.trans h.queue

theorem Kept.refl (s : State) : Kept s s where

theorem Kept.trans {s t u : State} (h : Kept s t) (k : Kept t u) : Kept s u where
  toLawsKept := h.toLawsKept.trans k.toLawsKept
  reset := k.reset ∘ h.reset

/-- Where no reset is left pending, none waits anywhere but in STOPPING. -/
theorem LawsKept.kept_of_no_reset {s t : State} (h : LawsKept s t) (hr : t.sup.resetPending = false) : Kept s t where
  toLawsKept := h
  reset := fun _ hp => absurd (hr.symm.trans hp) (by decide)

/-- A fold of steps that keep the laws keeps them. -/
theorem kept_foldl {α : Type} (f : State → α → State) (h : ∀ s a, Kept s (f s a)) (l : List α) (s : State) :
    Kept s (l.foldl f s) := by
  induction l generalizing s with
  | nil => exact .refl s
  | cons a l ih => exact (h s a).trans (ih _)

/-! ## Alerts (R169, R170) -/

theorem alertLaw_post {s : State} (h : AlertLaw s) (a : AlertEntry) : AlertLaw { s with link := s.link.post a } := by
  obtain ⟨hlen, hdistinct⟩ := h
  refine ⟨(Link.post_length _ _ hlen).1, ?_⟩
  show List.Pairwise _ (s.link.post a).alerts
  unfold Link.post
  split
  case isTrue =>
    have hkey : ∀ e, (if sameAlert a e then mergeAlert e a else e).kind = e.kind
        ∧ (if sameAlert a e then mergeAlert e a else e).key = e.key := by
      intro e
      split
      · rename_i hsame; exact (sameAlert_iff a e).mp hsame
      · exact ⟨rfl, rfl⟩
    rw [List.pairwise_map]
    exact hdistinct.imp fun hne => by simpa only [hkey] using hne
  case isFalse hnew =>
    split
    · refine List.pairwise_append.mpr ⟨hdistinct, List.pairwise_singleton .., fun x hx y hy => ?_⟩
      obtain rfl := List.mem_singleton.mp hy
      rintro ⟨hkind, hkey⟩
      exact hnew (List.any_eq_true.mpr ⟨x, hx, (sameAlert_iff ..).mpr ⟨hkind.symm, hkey.symm⟩⟩)
    · exact hdistinct

theorem linkLaw_post {s : State} (h : LinkLaw s) (a : AlertEntry) : LinkLaw { s with link := s.link.post a } := by
  simpa [LinkLaw] using h

theorem kept_alertAt (s : State) (tag : Byte) (kind : AlertKind) (key : Key) (detail : Detail) (value : Int) :
    Kept s (s.alertAt tag kind key detail value) where
  alerts h := alertLaw_post h _
  link h := linkLaw_post h _

theorem kept_alert (s : State) (kind : AlertKind) (key : Key) (detail : Detail) (value : Int) :
    Kept s (s.alert kind key detail value) := kept_alertAt ..

theorem kept_alertDone (s : State) (o : EndOutcome) (e : Entry) : Kept s (s.alertDone o e) := kept_alert ..

theorem kept_alertState (s : State) (entered left : OpState) (p : Option Posture) :
    Kept s (s.alertState entered left p) := kept_alert ..

theorem kept_alertEnded (s : State) (r : Option Nat) : Kept s (s.alertEnded r) := by
  unfold State.alertEnded
  split
  · exact .refl s
  · exact (kept_alertDone ..).trans (kept_foldl _ (fun _ _ => kept_alertDone ..) _ _)

/-! ## What is asked for and raised -/

theorem kept_sendRaise (s : State) (line : Nat) (value : Int) : Kept s (s.sendRaise line value) where
theorem kept_askStop (s : State) : Kept s s.askStop where
theorem kept_askWalk (s : State) : Kept s s.askWalk where
theorem kept_askSafe (s : State) (c : SafeCause) : Kept s (s.askSafe c) where

theorem kept_reportParked (s : State) : Kept s s.reportParked := by
  obtain h | ⟨-, -, h⟩ := reportParked_cases s
  · rw [h]; exact .refl s
  · rw [h]; exact {}

theorem kept_finish (s : State) (f : Finish) : Kept s (s.finish f) where

/-! ## The contact records (R44, R54) -/

theorem LegContact.abandon_lawful {c : LegContact} (h : c.lawful) : c.abandon.lawful := by
  obtain ⟨hon, hoff, hbase, hage, hslip, htorque, -⟩ := h
  exact ⟨hon, hoff, hbase, hage, hslip, htorque, fun _ hk => nomatch hk⟩

theorem kept_mapContacts (s : State) (f : LegId → LegContact → LegContact)
    (h : ∀ l c, c.lawful → (f l c).lawful) : Kept s (s.mapContacts f) where
  monitor := fun ⟨hlegs, hset, hforce⟩ =>
    ⟨fun l => by rw [State.mapContacts_legs]; exact h l _ (hlegs l), hset, hforce⟩

theorem kept_dropCaptures (s : State) : Kept s s.dropCaptures :=
  kept_mapContacts s _ fun _ _ => LegContact.abandon_lawful

theorem kept_dropMovedCaptures (s : State) (before : PerLeg Slot) : Kept s (s.dropMovedCaptures before) :=
  kept_mapContacts s _ fun _ _ h => by
    split
    · exact h
    · exact LegContact.abandon_lawful h

/-! ## The relevel capture (R71) -/

theorem kept_dropRelevel (s : State) : Kept s { s with balance := { s.balance with relevel := none } } where
  balance := fun ⟨h1, h2, h3, h4, h5, h6, h7, h8, h9, h10, h11, _, h13⟩ =>
    ⟨h1, h2, h3, h4, h5, h6, h7, h8, h9, h10, h11, fun _ hk => (nomatch hk), h13⟩

theorem kept_abortRelevel (s : State) : Kept s s.abortRelevel := by
  cases h : s.balance.relevel with
  | none => rw [abortRelevel_none s h]; exact .refl s
  | some r => rw [abortRelevel_some s r h]; exact (kept_dropRelevel s).trans (kept_alert ..)

end Sys2Proof.Machine
end

section
/-!
The play slots through a re-park, a re-derivation and a change of leg modes (R19, R20, R154): what fills them, that they stand as
R30 says, that they name READY banks; and so that these operations keep every law.
-/

namespace Sys2Proof.Machine

-- One proof after another: side by side they take more threads than the memory limit of the check allows.
set_option Elab.async false

/-! ## Modes that are out of play alike (R15, R17) -/

theorem outCount_congr {m n : PerLeg Mode} (h : ∀ l, (m.get l).isOut = (n.get l).isOut) : outCount m = outCount n := by
  have h1 := h .lf; have h2 := h .rf; have h3 := h .lh; have h4 := h .rh
  simp only [PerLeg.get] at h1 h2 h3 h4
  simp only [outCount, PerLeg.toList, List.filter_cons, h1, h2, h3, h4]
  split <;> split <;> split <;> split <;> rfl

theorem outLeg_congr {m n : PerLeg Mode} (h : ∀ l, (m.get l).isOut = (n.get l).isOut) : outLeg m = outLeg n := by
  simp only [outLeg, h]

theorem legal_congr {m n : PerLeg Mode} (h : ∀ l, (m.get l).isOut = (n.get l).isOut) (g : Option Gait) :
    legal g m = legal g n := by
  unfold legal
  rw [outCount_congr h, outLeg_congr h]

theorem anyStrut_iff (m : PerLeg Mode) : anyStrut m = true ↔ ∃ l, m.get l = .strut := by
  simp only [anyStrut, PerLeg.toList, List.any_cons, List.any_nil, Bool.or_false, Bool.or_eq_true, beq_iff_eq]
  constructor
  · rintro (h | h | h | h)
    exacts [⟨.lf, h⟩, ⟨.rf, h⟩, ⟨.lh, h⟩, ⟨.rh, h⟩]
  · rintro ⟨l, h⟩
    cases l
    exacts [.inl h, .inr (.inl h), .inr (.inr (.inl h)), .inr (.inr (.inr h))]

theorem rateCap_congr {m n : PerLeg Mode} (h : ∀ l, m.get l = .strut ↔ n.get l = .strut) (w : WalkSettings) :
    rateCap w m = rateCap w n := by
  have hs : anyStrut m = anyStrut n := by
    rw [Bool.eq_iff_iff, anyStrut_iff, anyStrut_iff]
    simp only [h]
  simp only [rateCap, hs]

/-- An ACTIVE leg that becomes FAULTED was and is no leg out of play. -/
theorem isOut_set_faulted {m : PerLeg Mode} {leg : LegId} (h : m.get leg = .active) (l : LegId) :
    ((m.set leg .faulted).get l).isOut = (m.get l).isOut := by
  rw [PerLeg.get_set]
  split
  · subst l; rw [h]; rfl
  · rfl

theorem strut_set_faulted {m : PerLeg Mode} {leg : LegId} (h : m.get leg = .active) (l : LegId) :
    (m.set leg .faulted).get l = .strut ↔ m.get l = .strut := by
  rw [PerLeg.get_set]
  split
  · subst l; simp [h]
  · exact Iff.rfl

/-! ## Members and the banks they name (R8, R15) -/

theorem slotMember_mem {g : Option Gait} {modes : PerLeg Mode} {l : LegId} {m : Member} {mirror : Bool}
    (h : slotMember g modes l = some (m, mirror)) : ∃ g', g = some g' ∧ m ∈ g'.members := by
  have hrole : ∀ {p q d : Member} {o : LegId}, roleMember p q d o l = some (m, mirror) → m ∈ [p, q, d] := by
    intro p q d o h
    unfold roleMember at h
    split at h
    · obtain ⟨rfl, -⟩ := Prod.mk.inj (Option.some.inj h); simp
    · split at h
      · obtain ⟨rfl, -⟩ := Prod.mk.inj (Option.some.inj h); simp
      · split at h
        · obtain ⟨rfl, -⟩ := Prod.mk.inj (Option.some.inj h); simp
        · cases h
  unfold slotMember at h
  split at h
  · split at h
    · cases h
    · obtain ⟨rfl, -⟩ := Prod.mk.inj (Option.some.inj h)
      refine ⟨_, rfl, ?_⟩
      cases l <;> simp [Gait.members, PerLeg.toList, PerLeg.get]
    · obtain ⟨o, -, ho⟩ := Option.bind_eq_some_iff.mp h
      exact ⟨_, rfl, hrole ho⟩
    · obtain ⟨o, -, ho⟩ := Option.bind_eq_some_iff.mp h
      exact ⟨_, rfl, hrole ho⟩
  · cases h

theorem Gait.names_of_mem {g : Gait} {m : Member} (h : m ∈ g.members) : g.names m.bank = true :=
  List.any_eq_true.mpr ⟨m, h, beq_self_eq_true _⟩

/-- A defined entry stands in the table. -/
theorem mem_gaits_of_gait {s : State} {n : Nat} {g : Gait} (h : s.gait n = some g) : some g ∈ s.gaits.toList := by
  unfold State.gait at h
  cases hn : s.gaits[n]? with
  | none => simp [hn] at h
  | some e =>
    simp only [hn, Option.getD_some] at h
    subst h
    exact Vector.mem_toList_iff.mpr (Vector.mem_of_getElem? hn)

theorem inUse_of_gait {s : State} {n b : Nat} {g : Gait} (h : s.gait n = some g) (hb : g.names b = true) :
    s.inUse b = true := by
  have hany : (s.gaits.toList.any fun e => e.any fun g => g.names b) = true :=
    List.any_eq_true.mpr ⟨_, mem_gaits_of_gait h, hb⟩
  simp only [State.inUse, hany, Bool.or_true]

/-- A bank is in use by a slot or by an entry of the table: the current and the pending entry are entries of the table. -/
theorem inUse_cases {s : State} {b : Nat} (h : s.inUse b = true) :
    (∃ l, (s.engine.slots.get l).bank = b) ∨ ∃ g, some g ∈ s.gaits.toList ∧ g.names b = true := by
  have hgait : ∀ e : Option Gait, (e.any fun g => g.names b) = true → ∃ g, e = some g ∧ g.names b = true := by
    intro e he
    cases e with
    | none => cases he
    | some g => exact ⟨g, rfl, he⟩
  simp only [State.inUse, Bool.or_eq_true] at h
  obtain ((hslot | hcur) | hpend) | htab := h
  · obtain ⟨sl, hmem, hb⟩ := List.any_eq_true.mp hslot
    have hb : sl.bank = b := beq_iff_eq.mp hb
    simp only [PerLeg.toList, List.mem_cons, List.not_mem_nil, or_false] at hmem
    obtain rfl | rfl | rfl | rfl := hmem
    exacts [.inl ⟨.lf, hb⟩, .inl ⟨.rf, hb⟩, .inl ⟨.lh, hb⟩, .inl ⟨.rh, hb⟩]
  · obtain ⟨g, hg, hb⟩ := hgait _ hcur
    exact .inr ⟨g, mem_gaits_of_gait hg, hb⟩
  · obtain ⟨g, hg, hb⟩ := hgait _ hpend
    obtain ⟨n, -, hn⟩ := Option.bind_eq_some_iff.mp hg
    exact .inr ⟨g, mem_gaits_of_gait hn, hb⟩
  · obtain ⟨e, hmem, he⟩ := List.any_eq_true.mp htab
    obtain ⟨g, rfl, hb⟩ := hgait _ he
    exact .inr ⟨g, hmem, hb⟩

theorem inUse_of_slot (s : State) (l : LegId) : s.inUse (s.engine.slots.get l).bank = true := by
  have hany : (s.engine.slots.toList.any fun sl => sl.bank == (s.engine.slots.get l).bank) = true :=
    List.any_eq_true.mpr ⟨s.engine.slots.get l, by cases l <;> simp [PerLeg.toList, PerLeg.get], beq_self_eq_true _⟩
  simp only [State.inUse, hany, Bool.true_or]

theorem inUse_of_mem_gaits {s : State} {b : Nat} {g : Gait} (h : some g ∈ s.gaits.toList) (hb : g.names b = true) :
    s.inUse b = true := by
  have hany : (s.gaits.toList.any fun e => e.any fun g => g.names b) = true := List.any_eq_true.mpr ⟨_, h, hb⟩
  simp only [State.inUse, hany, Bool.or_true]

/-- The law of R8 through a change of the engine alone: the entries it names are defined, its slots name READY banks. -/
theorem ProfileLaw.of_engine {s : State} (h : ProfileLaw s) (e : Engine) (hcur : (s.gait e.current).isSome = true)
    (hpend : ∀ g, e.pendingGait = some g → (s.gait g).isSome = true)
    (hslots : ∀ l, (s.bank (e.slots.get l).bank).isReady = true) : ProfileLaw { s with engine := e } := by
  obtain ⟨hready, hgood, h0, h1, hg0, -, -⟩ := h
  refine ⟨fun b hb => ?_, hgood, h0, h1, hg0, hcur, hpend⟩
  obtain ⟨l, rfl⟩ | ⟨g, hg, hb⟩ := inUse_cases hb
  · exact hslots l
  · exact hready b (inUse_of_mem_gaits hg hb)

theorem ProfileLaw.slot_ready {s : State} (h : ProfileLaw s) (l : LegId) :
    (s.bank (s.engine.slots.get l).bank).isReady = true :=
  h.1 _ (inUse_of_slot s l)

theorem ProfileLaw.member_ready {s : State} (h : ProfileLaw s) {n : Nat} {modes : PerLeg Mode} {l : LegId} {m : Member}
    {mirror : Bool} (hm : slotMember (s.gait n) modes l = some (m, mirror)) : (s.bank m.bank).isReady = true := by
  obtain ⟨g, hg, hmem⟩ := slotMember_mem hm
  exact h.1 _ (inUse_of_gait hg (Gait.names_of_mem hmem))

theorem ProfileLaw.rest_ready {s : State} (h : ProfileLaw s) : (s.bank restSlot.bank).isReady = true := by
  obtain ⟨-, -, h0, -⟩ := h
  show (s.bank 0).isReady = true
  rw [h0]; rfl

theorem legal_isSome {g : Option Gait} {m : PerLeg Mode} (h : legal g m = true) : g.isSome = true := by
  cases g with
  | none => cases h
  | some _ => rfl

/-! ## Slots filled anew (R19, R20) -/

theorem slotPhased_restSlot (s : State) : SlotPhased s restSlot := ⟨rfl, rfl⟩

theorem slotPhased_parkedSlot (s : State) (p : Phase) (m : Member) (mirror : Bool) : SlotPhased s (parkedSlot p m mirror) :=
  ⟨rfl, rfl⟩

theorem reparked_cases (s : State) (l : LegId) :
    (∃ m mirror, slotMember (s.gait s.engine.current) s.sup.modes l = some (m, mirror)
      ∧ s.reparked l = parkedSlot (s.header m.bank).touchdown m mirror)
    ∨ (slotMember (s.gait s.engine.current) s.sup.modes l = none ∧ s.reparked l = restSlot) := by
  unfold State.reparked
  cases slotMember (s.gait s.engine.current) s.sup.modes l with
  | none => exact .inr ⟨rfl, rfl⟩
  | some p => exact .inl ⟨p.1, p.2, rfl, rfl⟩

theorem rekept_cases (s : State) (l : LegId) :
    (∃ m mirror, slotMember (s.gait s.engine.current) s.sup.modes l = some (m, mirror)
      ∧ ((let old := s.engine.slots.get l
          old.bank = m.bank ∧ old.offset = m.offset ∧ old.mirror = mirror) ∧ s.rekept l = s.engine.slots.get l
        ∨ s.rekept l = parkedSlot (s.header m.bank).touchdown m mirror))
    ∨ (slotMember (s.gait s.engine.current) s.sup.modes l = none ∧ s.rekept l = restSlot) := by
  unfold State.rekept
  cases slotMember (s.gait s.engine.current) s.sup.modes l with
  | none => exact .inr ⟨rfl, rfl⟩
  | some p =>
    refine .inl ⟨p.1, p.2, rfl, ?_⟩
    dsimp only
    split
    · exact .inl ⟨‹_›, rfl⟩
    · exact .inr rfl

theorem reparked_parked (s : State) (l : LegId) : (s.reparked l).parked.isSome = true := by
  obtain ⟨m, mirror, -, h⟩ | ⟨-, h⟩ := reparked_cases s l <;> rw [h] <;> rfl

/-- A re-park fills the slots by the current entry and parks them, so the law needs only that the entries are legal. -/
theorem slotLaw_repark (s : State) (hlegal : s.sup.op ≠ .config → legal (s.gait s.engine.current) s.sup.modes = true)
    (hpend : ∀ g, s.engine.pendingGait = some g → legal (s.gait g) s.sup.modes = true) : SlotLaw s.repark := by
  refine ⟨fun l => ?filled, fun l => ?phased, fun _ => ?parked, hlegal, hpend⟩
  case filled =>
    show SlotFilled (slotMember (s.gait s.engine.current) s.sup.modes l) (s.repark.engine.slots.get l)
    rw [State.repark_slots]
    obtain ⟨m, mirror, hm, h⟩ | ⟨hm, h⟩ := reparked_cases s l <;> rw [hm, h]
    · exact ⟨rfl, rfl, rfl⟩
    · rfl
  case phased =>
    rw [State.repark_slots]
    obtain ⟨m, mirror, -, h⟩ | ⟨-, h⟩ := reparked_cases s l <;> rw [h]
    · exact slotPhased_parkedSlot ..
    · exact slotPhased_restSlot _
  case parked =>
    refine List.all_eq_true.mpr fun l _ => ?_
    rw [State.repark_slots, reparked_parked, Bool.or_true]

/-- A re-derivation fills the slots by the current entry; a slot that it keeps stands as it stood. -/
theorem slotLaw_rederive (s : State) (hphased : ∀ l, SlotPhased s (s.engine.slots.get l))
    (hparked : s.sup.op = .standing → ∀ l, (s.engine.slots.get l).parked.isSome = true)
    (hlegal : s.sup.op ≠ .config → legal (s.gait s.engine.current) s.sup.modes = true)
    (hpend : ∀ g, s.engine.pendingGait = some g → legal (s.gait g) s.sup.modes = true) : SlotLaw s.rederive := by
  refine ⟨fun l => ?filled, fun l => ?phased, fun hop => ?parked, hlegal, hpend⟩
  case filled =>
    show SlotFilled (slotMember (s.gait s.engine.current) s.sup.modes l) (s.rederive.engine.slots.get l)
    rw [State.rederive_slots]
    obtain ⟨m, mirror, hm, ⟨hsame, h⟩ | h⟩ | ⟨hm, h⟩ := rekept_cases s l <;> rw [hm, h]
    · exact hsame
    · exact ⟨rfl, rfl, rfl⟩
    · rfl
  case phased =>
    rw [State.rederive_slots]
    obtain ⟨m, mirror, -, ⟨-, h⟩ | h⟩ | ⟨-, h⟩ := rekept_cases s l <;> rw [h]
    · exact hphased l
    · exact slotPhased_parkedSlot ..
    · exact slotPhased_restSlot _
  case parked =>
    refine List.all_eq_true.mpr fun l _ => ?_
    have hp : (s.rekept l).parked.isSome = true := by
      obtain ⟨m, mirror, -, ⟨-, h⟩ | h⟩ | ⟨-, h⟩ := rekept_cases s l <;> rw [h]
      exacts [hparked hop l, rfl, rfl]
    rw [State.rederive_slots, hp, Bool.or_true]

theorem profileLaw_repark {s : State} (h : ProfileLaw s) : ProfileLaw s.repark := by
  have ⟨_, _, _, _, _, hcur, hpend⟩ := h
  refine h.of_engine { s.engine with slots := .ofFn s.reparked } hcur hpend fun l => ?_
  rw [PerLeg.get_ofFn]
  obtain ⟨m, mirror, hm, hsl⟩ | ⟨-, hsl⟩ := reparked_cases s l <;> rw [hsl]
  · exact h.member_ready hm
  · exact h.rest_ready

theorem profileLaw_rederive {s : State} (h : ProfileLaw s) : ProfileLaw s.rederive := by
  have ⟨_, _, _, _, _, hcur, hpend⟩ := h
  refine h.of_engine { s.engine with slots := .ofFn s.rekept } hcur hpend fun l => ?_
  rw [PerLeg.get_ofFn]
  obtain ⟨m, mirror, hm, ⟨-, hsl⟩ | hsl⟩ | ⟨-, hsl⟩ := rekept_cases s l <;> rw [hsl]
  · exact h.slot_ready l
  · exact h.member_ready hm
  · exact h.rest_ready

theorem monitorLaw_repark {s : State} (h : MonitorLaw s) : MonitorLaw s.repark := (kept_dropMovedCaptures _ _).monitor h

theorem monitorLaw_rederive {s : State} (h : MonitorLaw s) : MonitorLaw s.rederive := (kept_dropMovedCaptures _ _).monitor h

/-- In STANDING every slot is parked: a playing one by the law of R40, any other by the values of R18. -/
theorem SlotLaw.parked_of_standing {s : State} (h : SlotLaw s) (hop : s.sup.op = .standing) (l : LegId) :
    (s.engine.slots.get l).parked.isSome = true := by
  obtain ⟨hfilled, -, hstand, -⟩ := h
  have hall := List.all_eq_true.mp (hstand hop) l (by cases l <;> decide)
  cases hm : slotMember (s.gait s.engine.current) s.sup.modes l with
  | none =>
    have hrest := hfilled l
    rw [hm] at hrest
    rw [show s.engine.slots.get l = restSlot from hrest]; rfl
  | some p => simpa [State.playing, hm] using hall

/-! ## The rate target and the reach-holds -/

theorem rateCap_bounds {w : WalkSettings} (h : w.good = true) (m : PerLeg Mode) :
    w.rateFloor ≤ rateCap w m ∧ rateCap w m ≤ 2048 := by
  simp only [WalkSettings.good, inRangeN, Bool.and_eq_true, decide_eq_true_eq] at h
  unfold rateCap
  split <;> omega

theorem reachHold_set_zero {u : ActionUnit} (h : ∀ l, u.reachHold.get l ≤ 1023) (leg l : LegId) :
    (u.reachHold.set leg 0).get l ≤ 1023 := by
  rw [PerLeg.get_set]
  split
  · exact Nat.zero_le _
  · exact h l

/-! ## A change of leg mode (R154, R155, R157) -/

/-- What the two commands that change a leg's mode have established: SET-LEG-MODE its checks at rest (R157), a drive failure that the
leg was ACTIVE and that the entry stays (R155). -/
def ModeChange (s : State) (leg : LegId) (m : Mode) (entry : Nat) : Prop :=
  (s.sup.op.isMoving = false ∧ outCount (s.sup.modes.set leg m) ≤ 1 ∧ legal (s.gait entry) (s.sup.modes.set leg m) = true)
  ∨ (s.sup.modes.get leg = .active ∧ m = .faulted ∧ entry = s.engine.current)

theorem ModeChange.outCount_le {s : State} {leg : LegId} {m : Mode} {n : Nat} (h : ModeChange s leg m n)
    (hs : outCount s.sup.modes ≤ 1) : outCount (s.sup.modes.set leg m) ≤ 1 := by
  obtain ⟨-, hout, -⟩ | ⟨hact, rfl, -⟩ := h
  · exact hout
  · rwa [outCount_congr (isOut_set_faulted hact)]

theorem ModeChange.entry_legal {s : State} {leg : LegId} {m : Mode} {n : Nat} (h : ModeChange s leg m n) (hs : SlotLaw s)
    (hop : s.sup.op ≠ .config) : legal (s.gait n) (s.sup.modes.set leg m) = true := by
  obtain ⟨-, -, hlegal⟩ | ⟨hact, rfl, rfl⟩ := h
  · exact hlegal
  · obtain ⟨-, -, -, hcur, -⟩ := hs
    rw [legal_congr (isOut_set_faulted hact)]
    exact hcur hop

theorem ModeChange.entry_defined {s : State} {leg : LegId} {m : Mode} {n : Nat} (h : ModeChange s leg m n)
    (hs : ProfileLaw s) : (s.gait n).isSome = true := by
  obtain ⟨-, -, hlegal⟩ | ⟨-, -, rfl⟩ := h
  · exact legal_isSome hlegal
  · obtain ⟨_, _, _, _, _, hcur, _⟩ := hs
    exact hcur

/-- At rest no gait is pending (R35); in motion the legs out of play stay the same. -/
theorem ModeChange.pending_legal {s : State} {leg : LegId} {m : Mode} {n : Nat} (h : ModeChange s leg m n)
    (hsup : SupervisorCore s) (hs : SlotLaw s) (g : Nat) (hg : s.engine.pendingGait = some g) :
    legal (s.gait g) (s.sup.modes.set leg m) = true := by
  obtain ⟨hrest, -⟩ | ⟨hact, rfl, -⟩ := h
  · obtain ⟨-, -, -, hmoving⟩ := hsup
    rw [hmoving (by rw [hg]; rfl)] at hrest
    cases hrest
  · obtain ⟨-, -, -, -, hpend⟩ := hs
    rw [legal_congr (isOut_set_faulted hact)]
    exact hpend g hg

theorem ModeChange.rate_le {s : State} {leg : LegId} {m : Mode} {n : Nat} (h : ModeChange s leg m n) (hs : RateLaw s) :
    s.engine.rate ≤ rateCap s.engine.walk (s.sup.modes.set leg m) := by
  obtain ⟨-, -, -, hrate, hstill, -⟩ := hs
  obtain ⟨hrest, -⟩ | ⟨hact, rfl, -⟩ := h
  · rw [hstill hrest]; exact Nat.zero_le _
  · rwa [rateCap_congr (strut_set_faulted hact)]

/-- The state in which a change of mode fills the slots anew: the mode, the entry and the leg's reach-hold are set. -/
def modeSet (s : State) (leg : LegId) (m : Mode) (entry : Nat) : State :=
  { s with
    sup := { s.sup with modes := s.sup.modes.set leg m }
    engine := { s.engine with current := entry }
    unit := if s.sup.modes.get leg = m then s.unit else { s.unit with reachHold := s.unit.reachHold.set leg 0 } }

theorem changeMode_eq (s : State) (leg : LegId) (m : Mode) (entry : Nat) :
    s.changeMode leg m entry
      = (if entry = s.engine.current then (modeSet s leg m entry).rederive
          else (modeSet s leg m entry).repark).reclampRate.reportParked := rfl

theorem reflexUnitLaw_modeSet {s : State} (h : ReflexUnitLaw s) (leg : LegId) (m : Mode) (entry : Nat) :
    ReflexUnitLaw (modeSet s leg m entry) := by
  obtain ⟨hweight, hhold, hrest⟩ := h
  unfold modeSet
  split
  · exact ⟨hweight, hhold, hrest⟩
  · exact ⟨hweight, reachHold_set_zero hhold leg, hrest⟩

theorem rateLaw_reclamp {s t : State} (h : RateLaw s) (htarget : t.engine = { s.engine with
      current := t.engine.current, slots := t.engine.slots }) (hop : t.sup.op = s.sup.op)
    (hrate : s.engine.rate ≤ rateCap s.engine.walk t.sup.modes) : RateLaw t.reclampRate := by
  obtain ⟨hwalk, -, -, -, hstill, hrest⟩ := h
  have hb := clampN_bounds s.engine.intent.rateTarget (rateCap_bounds hwalk t.sup.modes).1
  unfold RateLaw State.reclampRate
  dsimp only
  rw [htarget, hop]
  exact ⟨hwalk, hb.1, hb.2, hrate, hstill, hrest⟩

theorem profileLaw_modeSet {s : State} {leg : LegId} {m : Mode} {n : Nat} (hc : ModeChange s leg m n) (h : ProfileLaw s) :
    ProfileLaw (modeSet s leg m n) := by
  have ⟨_, _, _, _, _, _, hpend⟩ := h
  exact h.of_engine { s.engine with current := n } (hc.entry_defined h) hpend h.slot_ready

theorem kept_changeMode {s : State} {leg : LegId} {m : Mode} {n : Nat} (hc : ModeChange s leg m n) :
    Kept s (s.changeMode leg m n) := by
  rw [changeMode_eq]
  refine Kept.trans ?_ (kept_reportParked _)
  split
  case isTrue =>
    exact {
      supervisor := fun ⟨hout, hrest⟩ => ⟨hc.outCount_le hout, hrest⟩
      profile := fun h => profileLaw_rederive (profileLaw_modeSet hc h)
      slots := fun _ hsup h => slotLaw_rederive (modeSet s leg m n) h.2.1 (fun hop l => h.parked_of_standing hop l)
        (hc.entry_legal h) (hc.pending_legal hsup h)
      rate := fun h => rateLaw_reclamp h rfl rfl (hc.rate_le h)
      monitor := fun h => monitorLaw_rederive (s := modeSet s leg m n) h
      reflexUnit := fun h => reflexUnitLaw_modeSet h leg m n }
  case isFalse =>
    exact {
      supervisor := fun ⟨hout, hrest⟩ => ⟨hc.outCount_le hout, hrest⟩
      profile := fun h => profileLaw_repark (profileLaw_modeSet hc h)
      slots := fun _ hsup h => slotLaw_repark (modeSet s leg m n) (hc.entry_legal h) (hc.pending_legal hsup h)
      rate := fun h => rateLaw_reclamp h rfl rfl (hc.rate_le h)
      monitor := fun h => monitorLaw_repark (s := modeSet s leg m n) h
      reflexUnit := fun h => reflexUnitLaw_modeSet h leg m n }

end Sys2Proof.Machine
end

section
/-!
The laws through the soft reset (R160), the entry into SAFE (R96, R151) and the reflex stack: takings, the re-examination and
pops (R87 to R95, R105).
-/

namespace Sys2Proof.Machine

-- One proof after another: side by side they take more threads than the memory limit of the check allows.
set_option Elab.async false

/-! ## The soft reset (R160) -/

theorem outCount_resetMode (m : PerLeg Mode) : outCount (.ofFn fun l => resetMode (m.get l)) = outCount m :=
  outCount_congr fun l => by rw [PerLeg.get_ofFn]; cases m.get l <;> rfl

/-- The built-in entry gives every playing slot the rest values of R21. -/
theorem slotFilled_builtIn (modes : PerLeg Mode) (l : LegId) : SlotFilled (slotMember (some builtInGait) modes l) restSlot := by
  unfold slotMember
  split
  · exact ⟨by cases l <;> rfl, by cases l <;> rfl, rfl⟩
  · exact rfl

theorem profileLaw_softReset {s : State} (h : ProfileLaw s) : ProfileLaw s.softReset := by
  have ⟨_, _, _, _, hg0, _, _⟩ := h
  refine h.of_engine (resetEngine s.engine.walk) (by rw [show (resetEngine s.engine.walk).current = 0 from rfl, hg0]; rfl)
    (fun _ hg => nomatch hg) fun l => ?_
  rw [show (resetEngine s.engine.walk).slots = .all restSlot from rfl, PerLeg.get_all]
  exact h.rest_ready

theorem slotLaw_softReset {s : State} (h : ProfileLaw s) : SlotLaw s.softReset := by
  obtain ⟨-, -, -, -, hg0, -, -⟩ := h
  have hslot : ∀ l, s.softReset.engine.slots.get l = restSlot := PerLeg.get_all restSlot
  refine ⟨fun l => ?_, fun l => ?_, fun hop => (nomatch hop), fun hop => absurd rfl hop, fun _ hg => nomatch hg⟩
  · rw [hslot, show s.softReset.gait s.softReset.engine.current = s.gait 0 from rfl, hg0]
    exact slotFilled_builtIn _ l
  · rw [hslot]; exact slotPhased_restSlot _

theorem resetContact_lawful {b a : Nat} (hb : b ≤ 4095) (ha : a ≤ 65535) : (resetContact b a).lawful :=
  ⟨Nat.zero_le _, Nat.zero_le _, hb, ha, Nat.zero_le _, Nat.zero_le _, fun _ hk => nomatch hk⟩

theorem maxAge_le_of_good {c : ContactSettings} (h : c.good = true) : 1000 ≤ c.maxAge ∧ c.maxAge ≤ 65000 := by
  simp only [ContactSettings.good, inRangeN, Bool.and_eq_true, decide_eq_true_eq] at h
  omega

theorem kept_softReset (s : State) : Kept s s.softReset where
  arbiter _ := ⟨Nat.zero_le _, .nil, rfl, fun _ he => (nomatch he), fun _ => ⟨rfl, rfl⟩⟩
  link := fun ⟨hinbox, hreplies, hreserved, hinterval, _, hrx⟩ =>
    ⟨hinbox, hreplies, hreserved, hinterval, .inl rfl, hrx⟩
  profile := profileLaw_softReset
  supervisor := fun ⟨hout, _⟩ =>
    ⟨(outCount_resetMode s.sup.modes).trans_le hout, ⟨fun hp => (nomatch hp), fun hop => (nomatch hop)⟩, Nat.zero_le _,
      fun hp => nomatch hp⟩
  slots hp _ _ := slotLaw_softReset hp
  rate := fun ⟨hwalk, _⟩ =>
    ⟨hwalk, Nat.le_refl _, (rateCap_bounds hwalk _).1, Nat.zero_le _, fun _ => rfl, Nat.zero_le _, Nat.zero_le _,
      (by decide : (-128 : Int) ≤ 0), (by decide : (0 : Int) ≤ 127), Nat.zero_le _, Nat.zero_le _⟩
  monitor := fun ⟨hlegs, hset, hforce⟩ =>
    ⟨fun l => by
      obtain ⟨-, -, hbase, -⟩ := hlegs l
      show LegContact.lawful (PerLeg.get (.ofFn _) l)
      rw [PerLeg.get_ofFn]
      exact resetContact_lawful hbase (by have := maxAge_le_of_good hset; omega), hset, hforce⟩
  balance := fun ⟨_, _, hslots, htilt, hfall, _, _, _, hbands, _, hgains, _, hle⟩ =>
    have word : -32768 ≤ (0 : Int) ∧ (0 : Int) ≤ 32767 := by decide
    have rate : -32767 ≤ (0 : Int) ∧ (0 : Int) ≤ 32767 := by decide
    have reference : -436 ≤ (0 : Int) ∧ (0 : Int) ≤ 436 := by decide
    ⟨⟨word, word⟩, ⟨rate, rate⟩, hslots, htilt, hfall, Nat.zero_le _, reference, reference, hbands, rfl, hgains,
      fun _ hk => (nomatch hk), hle⟩
  reflexUnit := fun ⟨_, _, _, _, hparam⟩ =>
    ⟨Nat.zero_le _, fun l => by
      show (PerLeg.all 0).get l ≤ 1023
      rw [PerLeg.get_all]; decide, fun _ he => (nomatch he), fun _ he => (nomatch he), hparam⟩
  drive := fun ⟨_, hlimits, _⟩ => by
    have hrecord : ∀ l, (s.softReset.shaper.get l).record = .hold s.ring.tag := by intro l; cases l <;> rfl
    refine ⟨fun _ l => ⟨_, hrecord l⟩, hlimits, fun l t k tag hpos => ?_⟩
    rw [hrecord] at hpos
    cases hpos
  ring := fun ⟨hperiod, hloss, hstale, hbody, hmap, hflight, _, _, _, _, _, hdown⟩ =>
    ⟨hperiod, hloss, hstale, hbody, hmap, hflight, fun l => by
      show (PerLeg.all 0).get l ≤ 15
      rw [PerLeg.get_all]; decide, Nat.zero_le _, Nat.zero_le _, fun _ => ⟨hloss.1, rfl⟩, Nat.zero_lt_succ 7, hdown⟩
  reset _ hp := nomatch hp

theorem kept_applyReset (s : State) : Kept s s.applyReset := by
  unfold State.applyReset
  refine Kept.trans ?_ (kept_alert ..)
  have h := (kept_foldl (fun t e => t.alertDone .abandoned e) (fun t e => kept_alertDone t _ e) s.arbiter.stack s).trans
    (kept_softReset _)
  split
  · exact h
  · exact h.trans (kept_alertState ..)

/-! ## The entry into SAFE (R96, R118, R151) -/

theorem settle_le {hold : PerLeg Nat} (h : ∀ l, hold.get l ≤ 1023) (e : Entry) (l : LegId) : (settle hold e).get l ≤ 1023 := by
  unfold settle
  split
  · rw [PerLeg.get_set]
    split
    · omega
    · exact h l
  · exact h l

theorem foldl_settle_le (stack : List Entry) {hold : PerLeg Nat} (h : ∀ l, hold.get l ≤ 1023) (l : LegId) :
    (stack.foldl settle hold).get l ≤ 1023 := by
  induction stack generalizing hold with
  | nil => exact h l
  | cons e rest ih => exact ih (settle_le h e)

/-- The blocks as SAFE is entered, a relevel capture gone with them (R71). -/
def safeEntered (s : State) (p : Posture) : State :=
  { s.safeBlocks p with balance := { s.balance with relevel := none } }

theorem not_config_of_live {op : OpState} (h : op.isLive = true) : op ≠ .config := by
  rintro rfl; cases h

theorem lawsKept_safeEntered {s : State} (p : Posture) (hlive : s.sup.op.isLive = true) : LawsKept s (safeEntered s p) where
  arbiter _ := ⟨Nat.zero_le _, .nil, rfl, fun _ he => (nomatch he), fun _ => ⟨rfl, rfl⟩⟩
  profile := fun h => by
    have ⟨_, _, _, _, _, hcur, _⟩ := h
    exact h.of_engine { s.engine with rate := 0, holdOff := 0, pendingGait := none } hcur (fun _ hg => nomatch hg) h.slot_ready
  supervisor := fun ⟨hout, _, hquiesce, _⟩ => ⟨hout, ⟨fun _ => rfl, fun _ => rfl⟩, hquiesce, fun hp => nomatch hp⟩
  slots := fun _ _ ⟨hfilled, hphased, _, hlegal, _⟩ =>
    ⟨hfilled, hphased, fun hop => (nomatch hop), fun _ => hlegal (not_config_of_live hlive), fun _ hg => nomatch hg⟩
  rate := fun ⟨hwalk, hfloor, hcap, _, _, hamp, htarget, hlo, hhi, hage, _⟩ =>
    ⟨hwalk, hfloor, hcap, Nat.zero_le _, fun _ => rfl, hamp, htarget, hlo, hhi, hage, Nat.zero_le _⟩
  monitor := (kept_dropCaptures s).monitor
  balance := fun ⟨h1, h2, h3, h4, h5, h6, h7, h8, h9, h10, h11, _, h13⟩ =>
    ⟨h1, h2, h3, h4, h5, h6, h7, h8, h9, h10, h11, fun _ hk => (nomatch hk), h13⟩
  reflexUnit := fun ⟨_, hhold, _, _, hparam⟩ =>
    ⟨Nat.zero_le _, foldl_settle_le _ hhold, fun _ he => (nomatch he), fun _ he => (nomatch he), hparam⟩
  drive := fun ⟨_, hlimits, hpos⟩ => ⟨fun hop => (nomatch hop), hlimits, hpos⟩

/-- Every entry below the top one ends ABANDONED (R96). -/
theorem endOutcome_below (r : Option Nat) (e : Entry) : endOutcome r false e = .abandoned :=
  if_neg fun h => nomatch h.1

theorem alertEnded_nil {s : State} (r : Option Nat) (h : s.arbiter.stack = []) : s.alertEnded r = s := by
  unfold State.alertEnded; rw [h]

theorem alertEnded_cons {s : State} (r : Option Nat) {e : Entry} {below : List Entry} (h : s.arbiter.stack = e :: below) :
    s.alertEnded r = { s with
      link := below.foldl (fun k x => k.post (newAlert .reflexDone (.line x.line) (.outcome .abandoned) s.ring.tag x.progress))
        (s.link.post (newAlert .reflexDone (.line e.line) (.outcome (endOutcome r true e)) s.ring.tag e.progress)) } := by
  unfold State.alertEnded
  rw [h]
  simp only [endOutcome_below]
  exact alertDone_foldl .abandoned below (s.alertDone (endOutcome r true e) e)

@[simp] theorem alertEnded_sup (s : State) (r : Option Nat) : (s.alertEnded r).sup = s.sup := by
  cases h : s.arbiter.stack with
  | nil => rw [alertEnded_nil r h]
  | cons e below => rw [alertEnded_cons r h]

theorem abortRelevel_eq (s : State) :
    s.abortRelevel = { s with balance := { s.balance with relevel := none }, link := s.abortRelevel.link } := by
  cases h : s.balance.relevel with
  | none =>
    rw [abortRelevel_none s h, ← h]
  | some r => rw [abortRelevel_some s r h]; rfl

/-- SAFE entered in full, before any reset that is then applied. -/
theorem lawsKept_safeAlerted {s : State} (p : Posture) (r : Option Nat) (hlive : s.sup.op.isLive = true) :
    LawsKept s (((s.alertEnded r).safeBlocks p).alertState .safe s.sup.op (some p)).abortRelevel := by
  have hended := kept_alertEnded s r
  have hlive' : (s.alertEnded r).sup.op.isLive = true := by rwa [alertEnded_sup]
  rw [abortRelevel_eq]
  refine hended.toLawsKept.trans ((lawsKept_safeEntered p hlive').trans ?_)
  exact {
    alerts := fun h => (kept_abortRelevel _).alerts ((kept_alertState ((s.alertEnded r).safeBlocks p) ..).alerts h)
    link := fun h => (kept_abortRelevel _).link ((kept_alertState ((s.alertEnded r).safeBlocks p) ..).link h) }

theorem enterSafe_resetPending (s : State) (p : Posture) (r : Option Nat) (hlive : s.sup.op.isLive = true) :
    (s.enterSafe p r).sup.resetPending = false := by
  unfold State.enterSafe
  rw [if_pos hlive]
  dsimp only
  split
  · exact (applyReset_sup _).2
  · exact Bool.not_eq_true _ ▸ ‹_›

theorem kept_enterSafe (s : State) (p : Posture) (r : Option Nat) : Kept s (s.enterSafe p r) := by
  by_cases hlive : s.sup.op.isLive = true
  · refine LawsKept.kept_of_no_reset ?_ (enterSafe_resetPending s p r hlive)
    unfold State.enterSafe
    rw [if_pos hlive]
    dsimp only
    split
    · exact (lawsKept_safeAlerted p r hlive).trans (kept_applyReset _).toLawsKept
    · exact lawsKept_safeAlerted p r hlive
  · rw [enterSafe_of_not_live s p r (Bool.not_eq_true _ ▸ hlive)]
    exact .refl s

end Sys2Proof.Machine
end

section
/-!
The laws through the reflex stack: an entry shed, pushed, started, popped and resumed, and the re-examination (R87 to R95, R105,
R110, R114).
-/

namespace Sys2Proof.Machine

-- One proof after another: side by side they take more threads than the memory limit of the check allows.
set_option Elab.async false

/-! ## Actions that start and resume -/

theorem kept_plantLooks (s : State) (e : Entry) : Kept s (s.plantLooks e) := by
  unfold State.plantLooks
  split
  · split
    · exact kept_finish ..
    · exact .refl s
  · exact .refl s

theorem kept_stopAsks (s : State) : Kept s s.stopAsks := by
  unfold State.stopAsks
  split
  · exact (kept_askStop s).trans (kept_finish ..)
  · exact kept_askStop s

/-- The top entry replaced by one of the same line, priority and parameter, what it carries within the ranges of R104. -/
theorem kept_setTop {s : State} {e e' : Entry} {rest : List Entry} (hstack : s.arbiter.stack = e :: rest)
    (hline : e'.line = e.line) (hprio : e'.priority = e.priority) (hparam : e'.parameter = e.parameter)
    (hcarries : (e.reach ≤ 1023 ∧ -1023 ≤ e.contribution ∧ e.contribution ≤ 1023 ∧ e.parameter ≤ 1023) →
      (e.action ≠ .retract → e.action ≠ .plant → e.contribution = 0) →
      (e'.reach ≤ 1023 ∧ -1023 ≤ e'.contribution ∧ e'.contribution ≤ 1023)
        ∧ (e'.action ≠ .retract → e'.action ≠ .plant → e'.contribution = 0)) :
    Kept s (s.setTop e') where
  arbiter := fun ⟨hlen, hprios, hlevel, hpend, hrest⟩ => by
    rw [hstack] at hlen hprios hlevel hpend
    obtain ⟨habove, hbelow⟩ := List.pairwise_cons.mp hprios
    obtain ⟨htop, hothers⟩ := List.forall_mem_cons.mp hpend
    refine ⟨?_, ?_, ?_, ?_, fun hop => ?_⟩
    · simpa [hstack] using hlen
    · rw [State.setTop_arbiter, hstack]
      exact List.pairwise_cons.mpr ⟨fun x hx => by rw [hprio]; exact habove x hx, hbelow⟩
    · exact hlevel.trans hprio.symm
    · rw [State.setTop_arbiter, hstack]
      exact List.forall_mem_cons.mpr ⟨by rw [hline]; exact htop, hothers⟩
    · have hempty := (hrest hop).1
      rw [hstack] at hempty
      cases hempty
  reflexUnit := fun ⟨hweight, hhold, hranges, hidle, hset⟩ => by
    rw [hstack] at hranges hidle
    obtain ⟨htop, hothers⟩ := List.forall_mem_cons.mp hranges
    obtain ⟨htop', hothers'⟩ := List.forall_mem_cons.mp hidle
    obtain ⟨⟨hreach, hlo, hhi⟩, hidle'⟩ := hcarries htop htop'
    refine ⟨hweight, hhold, ?_, ?_, hset⟩
    · rw [State.setTop_arbiter, hstack]
      exact List.forall_mem_cons.mpr ⟨⟨hreach, hlo, hhi, hparam ▸ htop.2.2.2⟩, hothers⟩
    · rw [State.setTop_arbiter, hstack]
      exact List.forall_mem_cons.mpr ⟨hidle', hothers'⟩

theorem kept_startAction {s : State} {e : Entry} {rest : List Entry} (hstack : s.arbiter.stack = e :: rest) :
    Kept s (s.startAction e) := by
  unfold State.startAction
  split
  case h_1 | h_2 => exact .refl s
  case h_3 hretract =>
    refine kept_setTop hstack rfl rfl rfl fun ⟨hreach, _, _, hparam⟩ _ => ⟨⟨hreach, ?_, ?_⟩, fun hne => absurd hretract hne⟩
    · exact (by decide : (-1023 : Int) ≤ 0).trans (Int.natCast_nonneg _)
    · exact Int.ofNat_le.mpr hparam
  case h_4 => exact kept_plantLooks s e
  case h_5 => exact kept_stopAsks s
  case h_6 =>
    exact { reflexUnit := fun ⟨_, hrest⟩ => ⟨Nat.zero_le _, hrest⟩ }
  case h_7 => exact kept_enterSafe ..

theorem kept_resumeAction (s : State) (e : Entry) : Kept s (s.resumeAction e) := by
  unfold State.resumeAction
  split
  case h_1 => exact kept_plantLooks s e
  case h_2 => exact kept_stopAsks s
  all_goals exact .refl s

theorem kept_resumeTop (s : State) : Kept s s.resumeTop := by
  unfold State.resumeTop
  split
  · exact .refl s
  · exact kept_resumeAction ..

/-! ## A full stack sheds its bottom entry (R92 step 3, R118) -/

/-- A stack with room is left as it is; a full one loses its bottom entry, whose reach passes into its leg's reach-hold. -/
theorem shed_cases (s : State) :
    (s.arbiter.stack.length < 4 ∧ s.shed = s)
    ∨ ∃ e, s.arbiter.stack.getLast? = some e ∧ 4 ≤ s.arbiter.stack.length
        ∧ s.shed = ({ s with
            arbiter := { s.arbiter with stack := s.arbiter.stack.dropLast }
            unit := { s.unit with reachHold := settle s.unit.reachHold e, finished := .clear } } : State).alertDone .shed e := by
  unfold State.shed
  split
  · exact .inl ⟨‹_›, rfl⟩
  · rename_i hfull
    split
    · exact .inr ⟨_, ‹_›, Nat.le_of_not_lt hfull, rfl⟩
    · rename_i hnone
      rw [List.getLast?_eq_none_iff] at hnone
      exact absurd (by rw [hnone]; decide) hfull

theorem stackLevel_dropLast {stack : List Entry} (h : 2 ≤ stack.length) : stackLevel stack.dropLast = stackLevel stack := by
  match stack, h with
  | _ :: _ :: _, _ => rfl

theorem kept_shed (s : State) : Kept s s.shed := by
  obtain ⟨-, h⟩ | ⟨e, hlast, hfull, h⟩ := shed_cases s
  · rw [h]; exact .refl s
  · rw [h]
    refine Kept.trans ?_ (kept_alertDone ..)
    exact {
      arbiter := fun ⟨hlen, hprios, hlevel, hpend, hrest⟩ =>
        ⟨(List.length_dropLast (xs := s.arbiter.stack)).trans_le (by omega), hprios.sublist (List.dropLast_sublist _),
          hlevel.trans (stackLevel_dropLast (by omega)).symm, fun x hx => hpend x (List.mem_of_mem_dropLast hx), fun hop => by
          have hempty := (hrest hop).1
          rw [hempty] at hlast
          cases hlast⟩
      reflexUnit := fun ⟨hweight, hhold, hranges, hidle, hset⟩ =>
        ⟨hweight, settle_le hhold e, fun x hx => hranges x (List.mem_of_mem_dropLast hx),
          fun x hx => hidle x (List.mem_of_mem_dropLast hx), hset⟩ }

/-- Shedding touches the stack of the arbiter alone, and of the stack it keeps what it keeps. -/
theorem shed_arbiter (s : State) : s.shed.arbiter = { s.arbiter with stack := s.shed.arbiter.stack } := by
  obtain ⟨-, h⟩ | ⟨e, -, -, h⟩ := shed_cases s <;> rw [h]
  rfl

@[simp] theorem shed_sup (s : State) : s.shed.sup = s.sup := by
  obtain ⟨-, h⟩ | ⟨e, -, -, h⟩ := shed_cases s <;> rw [h]
  rfl

theorem mem_of_mem_shed {s : State} {x : Entry} (h : x ∈ s.shed.arbiter.stack) : x ∈ s.arbiter.stack := by
  obtain ⟨-, hs⟩ | ⟨e, -, -, hs⟩ := shed_cases s
  · rwa [hs] at h
  · rw [hs] at h
    exact List.mem_of_mem_dropLast h

theorem shed_length {s : State} (h : s.arbiter.stack.length ≤ 4) : s.shed.arbiter.stack.length ≤ 3 := by
  obtain ⟨hroom, hs⟩ | ⟨e, -, -, hs⟩ := shed_cases s
  · rw [hs]; omega
  · rw [hs]
    exact (List.length_dropLast (xs := s.arbiter.stack)).trans_le (by omega)

/-! ## A line taken (R90 to R92) -/

/-- The state in which a line's entry has been pushed, before its alert and its action's start. -/
def pushed (s : State) (line : Nat) : State :=
  { s.shed with
    arbiter := { s.shed.arbiter with
      stack := s.shed.arbiter.entryFor line :: s.shed.arbiter.stack, level := (s.shed.arbiter.entryFor line).priority }
    unit := { s.shed.unit with finished := .clear } }

theorem push_eq (s : State) (line : Nat) :
    s.push line
      = ((pushed s line).alert .reflexTaken (.line line) .none (pushed s line).arbiter.stack.length).startAction
          (s.shed.arbiter.entryFor line) := rfl

/-- The entry pushed above a lawful stack, whose entries it beats and whose lines are not pending, leaves a lawful one. -/
theorem arbiterLaw_pushed {s : State} {line : Nat} (h : ArbiterLaw s) (hlive : s.sup.op.isLive = true)
    (hbeats : ∀ x ∈ s.arbiter.stack, x.priority < s.arbiter.priority line) (hpend : s.arbiter.isPending line = false) :
    ArbiterLaw (pushed s line) := by
  have ⟨hlen, _, _, _, _⟩ := h
  obtain ⟨-, hprios, -, hothers, -⟩ := (kept_shed s).arbiter h
  have hlen' := shed_length hlen
  rw [shed_arbiter] at hothers
  refine ⟨?_, ?_, rfl, ?_, fun hop => ?_⟩
  · exact Nat.succ_le_succ hlen'
  · refine List.pairwise_cons.mpr ⟨fun x hx => ?_, hprios⟩
    have hx' := hbeats x (mem_of_mem_shed hx)
    show x.priority < s.shed.arbiter.priority line
    rw [shed_arbiter]
    exact hx'
  · refine List.forall_mem_cons.mpr ⟨?_, ?_⟩
    · show s.shed.arbiter.isPending line = false
      rw [shed_arbiter]
      exact hpend
    · intro x hx
      show s.shed.arbiter.isPending x.line = false
      rw [shed_arbiter]
      exact hothers x hx
  · rw [show (pushed s line).sup = s.sup from shed_sup s, hlive] at hop
    cases hop

theorem reflexUnitLaw_pushed {s : State} {line : Nat} (h : ReflexUnitLaw s) : ReflexUnitLaw (pushed s line) := by
  obtain ⟨hweight, hhold, hranges, hidle, hset⟩ := (kept_shed s).reflexUnit h
  refine ⟨hweight, hhold, List.forall_mem_cons.mpr ⟨⟨?_, ?_, ?_, hset _⟩, hranges⟩,
    List.forall_mem_cons.mpr ⟨fun _ _ => rfl, hidle⟩, hset⟩
  · exact Nat.zero_le 1023
  · exact (by decide : (-1023 : Int) ≤ 0)
  · exact (by decide : (0 : Int) ≤ 1023)

/-- Of the laws only the arbiter's rests on what has been tested before the push, from a state `r` on. -/
theorem kept_pushed {r s : State} {line : Nat} (h : Kept r s) (harbiter : ArbiterLaw r → ArbiterLaw (pushed s line)) :
    Kept r (pushed s line) :=
  have hshed := h.trans (kept_shed s)
  { arbiter := harbiter, alerts := hshed.alerts, link := hshed.link, profile := hshed.profile
    supervisor := hshed.supervisor, slots := hshed.slots, rate := hshed.rate, monitor := hshed.monitor
    balance := hshed.balance, drive := hshed.drive, ring := hshed.ring, queue := hshed.queue, reset := hshed.reset
    reflexUnit := fun hr => reflexUnitLaw_pushed (h.reflexUnit hr) }

theorem isPending_clear (p : BitVec 32) (c n : Nat) :
    (p &&& ~~~(BitVec.twoPow 32 c)).getLsbD n = (p.getLsbD n && decide (n ≠ c)) := by
  rw [BitVec.getLsbD_and, BitVec.getLsbD_not, BitVec.getLsbD_twoPow]
  by_cases hn : n < 32
  · by_cases hc : n = c
    · subst hc; simp [hn]
    · simp [hn, hc, Ne.symm hc]
  · rw [BitVec.getLsbD_of_ge p n (by omega)]; rfl

theorem isPending_set (p : BitVec 32) (c n : Nat) :
    (p ||| BitVec.twoPow 32 c).getLsbD n = (p.getLsbD n || (decide (c < 32) && decide (n = c))) := by
  rw [BitVec.getLsbD_or, BitVec.getLsbD_twoPow]
  by_cases hc : n = c
  · subst hc; simp
  · simp [hc, Ne.symm hc]

/-- The state in which the candidate has left the pending set. -/
def unpended (s : State) (c : Nat) : State :=
  { s with arbiter := { s.arbiter with pending := s.arbiter.pending &&& ~~~(BitVec.twoPow 32 c) } }

theorem kept_unpended (s : State) (c : Nat) : Kept s (unpended s c) where
  arbiter := fun ⟨hlen, hprios, hlevel, hpend, hrest⟩ =>
    ⟨hlen, hprios, hlevel, fun e he => by
      show (s.arbiter.pending &&& ~~~(BitVec.twoPow 32 c)).getLsbD e.line = false
      rw [isPending_clear, show s.arbiter.pending.getLsbD e.line = false from hpend e he, Bool.false_and], fun hop => by
      obtain ⟨hstack, hzero⟩ := hrest hop
      refine ⟨hstack, ?_⟩
      show s.arbiter.pending &&& ~~~(BitVec.twoPow 32 c) = 0
      rw [hzero]
      exact BitVec.zero_and⟩

/-- What passes the test of R91 beats every entry of a lawful stack: its top by the test, the rest by their order. -/
theorem passes_beats {s : State} {c : Nat} (h : ArbiterLaw s) (hp : s.arbiter.passes c = true) :
    ∀ x ∈ s.arbiter.stack, x.priority < s.arbiter.priority c := by
  obtain ⟨-, hprios, hlevel, -, -⟩ := h
  intro x hx
  have hlt : s.arbiter.level < s.arbiter.priority c := by
    unfold Arbiter.passes at hp
    split at hp
    · exact of_decide_eq_true hp
    · rw [Bool.or_eq_true] at hp
      obtain hempty | hhard := hp
      · rw [List.isEmpty_iff.mp hempty] at hx
        cases hx
      · exact of_decide_eq_true (Bool.and_eq_true _ _ ▸ hhard).2
  rw [hlevel] at hlt
  cases hs : s.arbiter.stack with
  | nil => rw [hs] at hx; cases hx
  | cons e rest =>
    rw [hs] at hx hprios hlt
    obtain rfl | hx := List.mem_cons.mp hx
    · exact hlt
    · exact Nat.lt_trans ((List.pairwise_cons.mp hprios).1 x hx) hlt

theorem kept_take {s : State} {c : Nat} (hlive : s.sup.op.isLive = true) (hp : s.arbiter.passes c = true) :
    Kept s (s.take c) := by
  unfold State.take
  split
  · exact ((kept_unpended s c).trans (kept_alert ..)).trans (kept_alert ..)
  · show Kept s ((unpended s c).push c)
    rw [push_eq]
    have hcleared : (unpended s c).arbiter.isPending c = false := by
      show (s.arbiter.pending &&& ~~~(BitVec.twoPow 32 c)).getLsbD c = false
      rw [isPending_clear]; simp
    have hpushed : Kept s (pushed (unpended s c) c) :=
      kept_pushed (kept_unpended s c) fun h =>
        arbiterLaw_pushed ((kept_unpended s c).arbiter h) hlive (passes_beats (s := s) h hp) hcleared
    exact (hpushed.trans (kept_alert ..)).trans (kept_startAction rfl)

theorem kept_reexamine (s : State) : Kept s s.reexamine :=
  reexamine_induct (Kept s) (fun _ _ hlive _ hp h => h.trans (kept_take hlive hp)) s (.refl s)

end Sys2Proof.Machine
end

section
/-!
The laws through the changes of operating state (R149, R150, R152, R153), the raises and pops of the arbiter (R87, R95), and a
drive failure (R155).
-/

namespace Sys2Proof.Machine

-- One proof after another: side by side they take more threads than the memory limit of the check allows.
set_option Elab.async false

/-! ## A raise taken (R87) -/

theorem live_of_pended {s : State} {n : Nat} (h : s.disposition n = .pended) :
    s.sup.op.isLive = true ∧ s.arbiter.holds n = false := by
  unfold State.disposition at h
  split at h
  · cases h
  · rename_i hlive
    split at h
    · cases h
    · rename_i hholds
      exact ⟨by simpa using hlive, by simpa using hholds⟩

theorem ne_of_not_holds {a : Arbiter} {n : Nat} (h : a.holds n = false) : ∀ e ∈ a.stack, e.line ≠ n := by
  intro e he hline
  have : a.holds n = true := List.any_eq_true.mpr ⟨e, he, beq_iff_eq.mpr hline⟩
  rw [h] at this
  cases this

/-- A line joins the pending set where no entry of the stack is its own (R88). -/
theorem kept_pend {s : State} {n : Nat} (hlive : s.sup.op.isLive = true) (hnew : ∀ e ∈ s.arbiter.stack, e.line ≠ n) :
    Kept s { s with arbiter := { s.arbiter with pending := s.arbiter.pending ||| BitVec.twoPow 32 n } } where
  arbiter := fun ⟨hlen, hprios, hlevel, hpend, _⟩ =>
    ⟨hlen, hprios, hlevel, fun e he => by
      show (s.arbiter.pending ||| BitVec.twoPow 32 n).getLsbD e.line = false
      rw [isPending_set, show s.arbiter.pending.getLsbD e.line = false from hpend e he]
      simp [hnew e he], fun hop => absurd (hlive.symm.trans hop) (by decide)⟩

theorem kept_takeRaise (s : State) (r : Raise) : Kept s (s.takeRaise r) := by
  unfold State.takeRaise
  dsimp only
  split
  · rename_i hpended
    obtain ⟨hlive, hholds⟩ := live_of_pended hpended
    exact (kept_alertAt ..).trans ((kept_pend (s := s.alertAt ..) hlive (ne_of_not_holds hholds)).trans (kept_reexamine _))
  · exact kept_alertAt ..

/-! ## A pop (R95) -/

/-- The state in which the top entry has left the stack, before its alert and what resumes below it. -/
def topGone (s : State) (e : Entry) (rest : List Entry) : State :=
  { s with
    arbiter := { s.arbiter with stack := rest, level := stackLevel rest }
    unit := { reachHold := settle s.unit.reachHold e
              weight := if e.action = .crouch then 0 else s.unit.weight
              finished := .clear } }

theorem popTop_nil {s : State} (o : EndOutcome) (h : s.arbiter.stack = []) : s.popTop o = s := by
  unfold State.popTop; rw [h]

theorem popTop_cons {s : State} (o : EndOutcome) {e : Entry} {rest : List Entry} (h : s.arbiter.stack = e :: rest) :
    s.popTop o = ((topGone s e rest).alertDone o e).resumeTop.reexamine := by
  unfold State.popTop; rw [h]; rfl

theorem kept_topGone {s : State} {e : Entry} {rest : List Entry} (h : s.arbiter.stack = e :: rest) :
    Kept s (topGone s e rest) where
  arbiter := fun ⟨hlen, hprios, _, hpend, hrest⟩ => by
    rw [h] at hlen hprios hpend
    refine ⟨Nat.le_trans (Nat.le_succ _) hlen, (List.pairwise_cons.mp hprios).2, rfl,
      (List.forall_mem_cons.mp hpend).2, fun hop => ?_⟩
    have hempty := (hrest hop).1
    rw [h] at hempty
    cases hempty
  reflexUnit := fun ⟨hweight, hhold, hranges, hidle, hset⟩ => by
    rw [h] at hranges hidle
    refine ⟨?_, settle_le hhold e, (List.forall_mem_cons.mp hranges).2, (List.forall_mem_cons.mp hidle).2, hset⟩
    show (if e.action = .crouch then 0 else s.unit.weight) ≤ 256
    split
    · exact Nat.zero_le _
    · exact hweight

theorem kept_popTop (s : State) (o : EndOutcome) : Kept s (s.popTop o) := by
  cases h : s.arbiter.stack with
  | nil => rw [popTop_nil o h]; exact .refl s
  | cons e rest =>
    rw [popTop_cons o h]
    exact (((kept_topGone h).trans (kept_alertDone ..)).trans (kept_resumeTop _)).trans (kept_reexamine _)

theorem kept_completeStop (s : State) : Kept s s.completeStop := by
  unfold State.completeStop
  split
  · split
    · exact kept_popTop ..
    · exact .refl s
  · exact .refl s

/-! ## STANDING from STOPPING (R149, R40) -/

theorem applyPendingStanding_none {s : State} (h : s.engine.pendingGait = none) : s.applyPendingStanding = s := by
  unfold State.applyPendingStanding; rw [h]

theorem applyPendingStanding_some {s : State} {g : Nat} (h : s.engine.pendingGait = some g) :
    s.applyPendingStanding
      = ({ s with engine := { s.engine with current := g, pendingGait := none } } : State).repark := by
  unfold State.applyPendingStanding; rw [h]

/-- STANDING entered from STOPPING with its alert, before a pending gait is applied. -/
def standingAlerted (s : State) : State :=
  ({ s with
    sup := { s.sup with op := .standing }
    engine := { s.engine with rate := 0 }
    wires := { s.wires with allParked := false } } : State).alertState .standing .stopping none

/-- The state in which STANDING has been entered from STOPPING, before a STOP on top completes. -/
def stood (s : State) : State := (standingAlerted s).applyPendingStanding

theorem standFromStopping_eq (s : State) :
    s.standFromStopping
      = if (stood s).completeStop.sup.resetPending then (stood s).completeStop.applyReset else (stood s).completeStop := rfl

theorem posture_none_of_not_safe {s : State} (h : SupervisorCore s) (hop : s.sup.op ≠ .safe) : ¬s.sup.posture.isSome = true :=
  fun hp => hop (h.2.1.mp hp)

/-- The laws as the operating state moves between STANDING, WALKING and STOPPING, or to STANDING: the fields that rest on it. -/
theorem lawsKept_stood {s : State} (hop : s.sup.op = .stopping) (hparked : s.everyPlayingParked = true) :
    LawsKept s (stood s) := by
  have hconfig : s.sup.op ≠ .config := by rw [hop]; decide
  have hsafe : s.sup.op ≠ .safe := by rw [hop]; decide
  unfold stood
  cases hg : s.engine.pendingGait with
  | none =>
    rw [applyPendingStanding_none (s := standingAlerted s) hg]
    exact {
      arbiter := fun ⟨hlen, hprios, hlevel, hpend, _⟩ => ⟨hlen, hprios, hlevel, hpend, fun hop => (nomatch hop)⟩
      alerts := (kept_alertState s ..).alerts
      link := (kept_alertState s ..).link
      supervisor := fun h =>
        ⟨h.1, ⟨fun hp => absurd hp (posture_none_of_not_safe (s := s) h hsafe), fun hop => (nomatch hop)⟩, h.2.2.1, fun hp => by
          rw [show (standingAlerted s).engine.pendingGait = none from hg] at hp
          cases hp⟩
      slots := fun _ _ ⟨hfilled, hphased, _, hlegal, hpend⟩ =>
        ⟨hfilled, hphased, fun _ => hparked, fun _ => hlegal hconfig, hpend⟩
      rate := fun ⟨hwalk, hfloor, hcap, _, _, hrest⟩ => ⟨hwalk, hfloor, hcap, Nat.zero_le _, fun _ => rfl, hrest⟩
      balance := fun ⟨h1, h2, h3, h4, h5, h6, h7, h8, h9, h10, h11, hrel, h13⟩ =>
        ⟨h1, h2, h3, h4, h5, h6, h7, h8, h9, h10, h11, fun k hk => ⟨(hrel k hk).1, rfl⟩, h13⟩
      drive := fun ⟨_, hlimits, hpos⟩ => ⟨fun hop => (nomatch hop), hlimits, hpos⟩ }
  | some g =>
    rw [applyPendingStanding_some (s := standingAlerted s) hg]
    exact {
      arbiter := fun ⟨hlen, hprios, hlevel, hpend, _⟩ => ⟨hlen, hprios, hlevel, hpend, fun hop => (nomatch hop)⟩
      alerts := (kept_alertState s ..).alerts
      link := (kept_alertState s ..).link
      profile := fun h =>
        have ⟨_, _, _, _, _, _, hpend⟩ := h
        profileLaw_repark (h.of_engine { s.engine with rate := 0, current := g, pendingGait := none } (hpend g hg)
          (fun _ hp => nomatch hp) h.slot_ready)
      supervisor := fun h =>
        ⟨h.1, ⟨fun hp => absurd hp (posture_none_of_not_safe (s := s) h hsafe), fun hop => (nomatch hop)⟩, h.2.2.1, fun hp => nomatch hp⟩
      slots := fun _ _ ⟨_, _, _, _, hpend⟩ => slotLaw_repark _ (fun _ => hpend g hg) (fun _ hp => nomatch hp)
      rate := fun ⟨hwalk, hfloor, hcap, _, _, hrest⟩ => ⟨hwalk, hfloor, hcap, Nat.zero_le _, fun _ => rfl, hrest⟩
      monitor := fun h => (kept_dropMovedCaptures _ _).monitor h
      balance := fun ⟨h1, h2, h3, h4, h5, h6, h7, h8, h9, h10, h11, hrel, h13⟩ =>
        ⟨h1, h2, h3, h4, h5, h6, h7, h8, h9, h10, h11, fun k hk => ⟨(hrel k hk).1, rfl⟩, h13⟩
      drive := fun ⟨_, hlimits, hpos⟩ => ⟨fun hop => (nomatch hop), hlimits, hpos⟩ }

theorem standFromStopping_resetPending (s : State) : s.standFromStopping.sup.resetPending = false := by
  rw [standFromStopping_eq]
  split
  · exact (applyReset_sup _).2
  · exact Bool.not_eq_true _ ▸ ‹_›

theorem kept_standFromStopping {s : State} (hop : s.sup.op = .stopping) (hparked : s.everyPlayingParked = true) :
    Kept s s.standFromStopping := by
  refine LawsKept.kept_of_no_reset ?_ (standFromStopping_resetPending s)
  rw [standFromStopping_eq]
  have h := (lawsKept_stood hop hparked).trans (kept_completeStop _).toLawsKept
  split
  · exact h.trans (kept_applyReset _).toLawsKept
  · exact h

/-! ## STOPPING from WALKING (R36, R150) -/

/-- The state in which STOPPING has been entered and the legs with an empty swing window are parked. -/
def stoppingEntered (s : State) : State :=
  let s1 := ({ s with sup := { s.sup with op := .stopping } } : State).alertState .stopping .walking none
  { s1 with engine := { s1.engine with slots := .ofFn s1.parkEmpty } }

theorem enterStopping_eq (s : State) :
    s.enterStopping
      = if (stoppingEntered s).everyPlayingParked then (stoppingEntered s).standFromStopping else stoppingEntered s := rfl

theorem stoppingEntered_slots (s : State) (l : LegId) : (stoppingEntered s).engine.slots.get l = s.parkEmpty l := by
  cases l <;> rfl

theorem parkEmpty_cases (s : State) (l : LegId) :
    s.parkEmpty l = s.engine.slots.get l
    ∨ (s.playing l = true
      ∧ s.parkEmpty l = { s.engine.slots.get l with parked := some (s.engine.slots.get l).phase, swing := false }) := by
  unfold State.parkEmpty
  dsimp only
  split
  · rename_i h
    exact .inr ⟨h.1, rfl⟩
  · exact .inl rfl

theorem parkEmpty_bank (s : State) (l : LegId) : (s.parkEmpty l).bank = (s.engine.slots.get l).bank := by
  obtain h | ⟨-, h⟩ := parkEmpty_cases s l <;> rw [h]

theorem lawsKept_stoppingEntered {s : State} (hop : s.sup.op = .walking) : LawsKept s (stoppingEntered s) := by
  have hconfig : s.sup.op ≠ .config := by rw [hop]; decide
  have hsafe : s.sup.op ≠ .safe := by rw [hop]; decide
  exact {
    arbiter := fun ⟨hlen, hprios, hlevel, hpend, _⟩ => ⟨hlen, hprios, hlevel, hpend, fun hop => (nomatch hop)⟩
    alerts := (kept_alertState s ..).alerts
    link := (kept_alertState s ..).link
    profile := fun h => by
      have ⟨_, _, _, _, _, hcur, hpend⟩ := h
      refine h.of_engine (stoppingEntered s).engine hcur hpend fun l => ?_
      rw [stoppingEntered_slots, parkEmpty_bank]
      exact h.slot_ready l
    supervisor := fun h =>
      ⟨h.1, ⟨fun hp => absurd hp (posture_none_of_not_safe (s := s) h hsafe), fun hop => (nomatch hop)⟩, h.2.2.1, fun _ => rfl⟩
    slots := fun _ _ ⟨hfilled, hphased, _, hlegal, hpend⟩ => by
      refine ⟨fun l => ?_, fun l => ?_, fun hop => (nomatch hop), fun _ => hlegal hconfig, hpend⟩
      · rw [stoppingEntered_slots]
        obtain h | ⟨hplay, h⟩ := parkEmpty_cases s l
        · rw [h]; exact hfilled l
        · rw [h]
          have hl := hfilled l
          unfold State.playing at hplay
          unfold SlotFilled at hl ⊢
          show match slotMember (s.gait s.engine.current) s.sup.modes l with
            | some (m, mirror) => _
            | none => _
          revert hl
          cases hm : slotMember (s.gait s.engine.current) s.sup.modes l with
          | none => rw [hm] at hplay; cases hplay
          | some p => exact id
      · rw [stoppingEntered_slots]
        obtain h | ⟨-, h⟩ := parkEmpty_cases s l <;> rw [h]
        · exact hphased l
        · exact ⟨rfl, rfl⟩
    rate := fun ⟨hwalk, hfloor, hcap, hrate, _, hrest⟩ => ⟨hwalk, hfloor, hcap, hrate, fun hop => (nomatch hop), hrest⟩
    balance := fun ⟨h1, h2, h3, h4, h5, h6, h7, h8, h9, h10, h11, hrel, h13⟩ =>
      ⟨h1, h2, h3, h4, h5, h6, h7, h8, h9, h10, h11, fun k hk => absurd ((hrel k hk).2.symm.trans hop) (by decide), h13⟩
    drive := fun ⟨_, hlimits, hpos⟩ => ⟨fun hop => (nomatch hop), hlimits, hpos⟩ }

/-- Entering STOPPING keeps the laws, and leaves a pending reset waiting in STOPPING or applied. -/
theorem lawsKept_enterStopping {s : State} (hop : s.sup.op = .walking) :
    LawsKept s s.enterStopping ∧ ResetWaits s.enterStopping := by
  rw [enterStopping_eq]
  split
  · exact ⟨(lawsKept_stoppingEntered hop).trans (kept_standFromStopping rfl ‹_›).toLawsKept,
      fun hp => absurd ((standFromStopping_resetPending _).symm.trans hp) (by decide)⟩
  · exact ⟨lawsKept_stoppingEntered hop, fun _ => rfl⟩

theorem kept_doStop (s : State) : Kept s s.doStop := by
  unfold State.doStop
  split
  · obtain ⟨hlaws, hreset⟩ := lawsKept_enterStopping ‹s.sup.op = .walking›
    exact { toLawsKept := hlaws, reset := fun _ => hreset }
  · exact .refl s

/-! ## WALKING (R149, R71, R114) -/

/-- The laws as WALKING is entered, a relevel capture gone with it. -/
theorem lawsKept_walking {s : State} (hop : s.sup.op = .standing ∨ s.sup.op = .stopping) :
    LawsKept s { s with sup := { s.sup with op := .walking }, balance := { s.balance with relevel := none } } := by
  have hconfig : s.sup.op ≠ .config := by obtain h | h := hop <;> rw [h] <;> decide
  have hsafe : s.sup.op ≠ .safe := by obtain h | h := hop <;> rw [h] <;> decide
  exact {
    arbiter := fun ⟨hlen, hprios, hlevel, hpend, _⟩ => ⟨hlen, hprios, hlevel, hpend, fun hop => (nomatch hop)⟩
    supervisor := fun h =>
      ⟨h.1, ⟨fun hp => absurd hp (posture_none_of_not_safe (s := s) h hsafe), fun hop => (nomatch hop)⟩, h.2.2.1, fun _ => rfl⟩
    slots := fun _ _ ⟨hfilled, hphased, _, hlegal, hpend⟩ =>
      ⟨hfilled, hphased, fun hop => (nomatch hop), fun _ => hlegal hconfig, hpend⟩
    rate := fun ⟨hwalk, hfloor, hcap, hrate, _, hrest⟩ => ⟨hwalk, hfloor, hcap, hrate, fun hop => (nomatch hop), hrest⟩
    balance := fun ⟨h1, h2, h3, h4, h5, h6, h7, h8, h9, h10, h11, _, h13⟩ =>
      ⟨h1, h2, h3, h4, h5, h6, h7, h8, h9, h10, h11, fun _ hk => (nomatch hk), h13⟩
    drive := fun ⟨_, hlimits, hpos⟩ => ⟨fun hop => (nomatch hop), hlimits, hpos⟩ }

theorem kept_enterWalking {s : State} (hop : s.sup.op = .standing ∨ s.sup.op = .stopping)
    (hreset : s.sup.resetPending = false) : Kept s s.enterWalking := by
  have h : Kept s (({ s with sup := { s.sup with op := .walking } } : State).alertState .walking s.sup.op none).abortRelevel := by
    refine LawsKept.kept_of_no_reset ?_ (by rw [abortRelevel_sup]; exact hreset)
    rw [abortRelevel_eq]
    refine (lawsKept_walking hop).trans ?_
    exact {
      alerts := fun h => (kept_abortRelevel _).alerts ((kept_alertState s .walking s.sup.op none).alerts h)
      link := fun h => (kept_abortRelevel _).link ((kept_alertState s .walking s.sup.op none).link h) }
  unfold State.enterWalking
  dsimp only
  split
  · split
    · exact h.trans (kept_askStop _)
    · exact h
  · exact h

/-! ## Standing started afresh by RELEASE and RESUME (R152, R153) -/

theorem not_moving_of_not_live {op : OpState} (h : op.isLive = false) : op.isMoving = false := by
  cases op with
  | config | safe => rfl
  | standing | walking | stopping => cases h

theorem kept_startStanding {s : State} (hrest : s.sup.op.isLive = false)
    (hlegal : legal (s.gait s.engine.current) s.sup.modes = true) : Kept s s.startStanding := by
  refine Kept.trans (t := ({ s with
    sup := { s.sup with op := .standing, posture := none }
    shaper := .ofFn fun l => { s.shaper.get l with prevValid := false }
    unit := { s.unit with reachHold := .all 0 }
    engine := { s.engine with rate := 0 }
    balance := { s.balance with fallArm := true } } : State).repark) ?_ (kept_alertState _ .standing s.sup.op none)
  exact {
    arbiter := fun ⟨hlen, hprios, hlevel, hpend, _⟩ => ⟨hlen, hprios, hlevel, hpend, fun hop => (nomatch hop)⟩
    profile := fun h =>
      have ⟨_, _, _, _, _, hcur, hpend⟩ := h
      profileLaw_repark (h.of_engine { s.engine with rate := 0 } hcur hpend h.slot_ready)
    supervisor := fun ⟨hout, _, hquiesce, hmoving⟩ =>
      ⟨hout, ⟨fun hp => (nomatch hp), fun hop => (nomatch hop)⟩, hquiesce, fun hp =>
        absurd ((not_moving_of_not_live hrest).symm.trans (hmoving hp)) (by decide)⟩
    slots := fun _ _ ⟨_, _, _, _, hpend⟩ => slotLaw_repark _ (fun _ => hlegal) hpend
    rate := fun ⟨hwalk, hfloor, hcap, _, _, hr⟩ => ⟨hwalk, hfloor, hcap, Nat.zero_le _, fun _ => rfl, hr⟩
    monitor := fun h => (kept_dropMovedCaptures _ _).monitor h
    balance := fun ⟨h1, h2, h3, h4, h5, h6, h7, h8, h9, h10, h11, hrel, h13⟩ =>
      ⟨h1, h2, h3, h4, h5, h6, h7, h8, h9, h10, h11, fun k hk => ⟨(hrel k hk).1, rfl⟩, h13⟩
    reflexUnit := fun ⟨hweight, _, hr⟩ => ⟨hweight, fun l => by
      show (PerLeg.all 0).get l ≤ 1023
      rw [PerLeg.get_all]; decide, hr⟩
    drive := fun ⟨_, hlimits, hpos⟩ => ⟨fun hop => (nomatch hop), hlimits, fun l t k tag hrec => by
      have hshape : ({ s with
          sup := { s.sup with op := .standing, posture := none }
          shaper := .ofFn fun l => { s.shaper.get l with prevValid := false }
          unit := { s.unit with reachHold := .all 0 }
          engine := { s.engine with rate := 0 }
          balance := { s.balance with fallArm := true } } : State).repark.shaper.get l
            = { s.shaper.get l with prevValid := false } := PerLeg.get_ofFn ..
      rw [hshape] at hrec ⊢
      exact hpos l t k tag hrec⟩
    reset := fun h hp => by
      have hop := h hp
      rw [hop] at hrest
      cases hrest }

/-! ## Drive failures (R155, R156) -/

theorem kept_multiFaultTest (s : State) : Kept s s.multiFaultTest := by
  unfold State.multiFaultTest
  split
  · exact kept_enterSafe ..
  · exact .refl s

theorem kept_driveFailure (s : State) (l : LegId) (value : Int) (first : Bool) : Kept s (s.driveFailure l value first) := by
  unfold State.driveFailure
  split
  case h_1 hactive =>
    dsimp only
    have hmode : Kept s (s.changeMode l .faulted s.engine.current) := kept_changeMode (.inr ⟨hactive, rfl, rfl⟩)
    refine Kept.trans ?_ (kept_multiFaultTest _)
    split
    · exact hmode.trans (kept_takeRaise ..)
    · exact hmode.trans (kept_sendRaise ..)
  case h_2 => exact (kept_alert ..).trans (kept_enterSafe ..)
  case h_3 => exact kept_alert ..
  case h_4 => exact .refl s

end Sys2Proof.Machine
end

section
/-!
The contact monitor (chapter 3), stage by stage: what each stage of R45 makes of the leg's record and of the raises, and that it
touches nothing else.
-/

namespace Sys2Proof.Machine

-- One proof after another: side by side they take more threads than the memory limit of the check allows.
set_option Elab.async false

/-! ## What a leg slot can touch -/

/-- The monitor's record of leg `l`, the finished mark and the raises may differ; nothing else does. -/
structure SlotTaken (l : LegId) (s t : State) : Prop where
  others : ∀ m, m ≠ l → t.monitor.legs.get m = s.monitor.legs.get m
  frame  : t = { s with
    monitor := { s.monitor with legs := t.monitor.legs }
    unit := { s.unit with finished := t.unit.finished }
    wires := { s.wires with raises := t.wires.raises } }

section
variable {l : LegId} {s t u : State}

theorem SlotTaken.refl (l : LegId) (s : State) : SlotTaken l s s where
  others _ _ := rfl
  frame := rfl

theorem SlotTaken.trans (h : SlotTaken l s t) (k : SlotTaken l t u) : SlotTaken l s u where
  others m hm := (k.others m hm).trans (h.others m hm)
  frame := by
    have hk := k.frame
    rw [h.frame] at hk
    exact hk

theorem SlotTaken.banks (h : SlotTaken l s t) : t.banks = s.banks := by
  have := congrArg State.banks h.frame
  exact this
theorem SlotTaken.gaits (h : SlotTaken l s t) : t.gaits = s.gaits := by
  have := congrArg State.gaits h.frame
  exact this
theorem SlotTaken.engine (h : SlotTaken l s t) : t.engine = s.engine := by
  have := congrArg State.engine h.frame
  exact this
theorem SlotTaken.settings (h : SlotTaken l s t) : t.monitor.settings = s.monitor.settings :=
  by have := congrArg (fun x => x.monitor.settings) h.frame; exact this
theorem SlotTaken.balance (h : SlotTaken l s t) : t.balance = s.balance := by
  have := congrArg State.balance h.frame
  exact this
theorem SlotTaken.arbiter (h : SlotTaken l s t) : t.arbiter = s.arbiter := by
  have := congrArg State.arbiter h.frame
  exact this
theorem SlotTaken.shaper (h : SlotTaken l s t) : t.shaper = s.shaper := by
  have := congrArg State.shaper h.frame
  exact this
theorem SlotTaken.limits (h : SlotTaken l s t) : t.limits = s.limits := by
  have := congrArg State.limits h.frame
  exact this
theorem SlotTaken.ring (h : SlotTaken l s t) : t.ring = s.ring := by
  have := congrArg State.ring h.frame
  exact this
theorem SlotTaken.sup (h : SlotTaken l s t) : t.sup = s.sup := by
  have := congrArg State.sup h.frame
  exact this
theorem SlotTaken.link (h : SlotTaken l s t) : t.link = s.link := by
  have := congrArg State.link h.frame
  exact this
theorem SlotTaken.legSlots (h : SlotTaken l s t) : t.wires.legSlots = s.wires.legSlots :=
  by have := congrArg (fun x => x.wires.legSlots) h.frame; exact this

theorem SlotTaken.header (h : SlotTaken l s t) (n : Nat) : t.header n = s.header n := by
  simp only [State.header, State.profile, State.bank, h.banks]

theorem SlotTaken.detectsAll (h : SlotTaken l s t) (m : LegId) : t.detectsAll m = s.detectsAll m := by
  simp only [State.detectsAll, h.sup]

theorem SlotTaken.detectsLoad (h : SlotTaken l s t) (m : LegId) : t.detectsLoad m = s.detectsLoad m := by
  simp only [State.detectsLoad, h.sup]

theorem SlotTaken.unloadWindow (h : SlotTaken l s t) (m : LegId) : t.unloadWindow m = s.unloadWindow m := by
  simp only [State.unloadWindow, h.sup, h.engine, h.settings, h.header]

theorem SlotTaken.hfError (h : SlotTaken l s t) (m : LegId) (hf : Int) : t.hfError m hf = s.hfError m hf := by
  simp only [State.hfError, h.shaper]

theorem SlotTaken.torqueOver (h : SlotTaken l s t) (m : LegId) (x : PerJoint Int) : t.torqueOver m x = s.torqueOver m x := by
  simp only [State.torqueOver, h.limits]

end

theorem slotTaken_setContact (s : State) (l : LegId) (c : LegContact) : SlotTaken l s (s.setContact l c) where
  others m hm := by rw [State.setContact_monitor, PerLeg.get_set_ne _ _ hm]
  frame := rfl

theorem slotTaken_sendRaise (l : LegId) (s : State) (line : Nat) (value : Int) : SlotTaken l s (s.sendRaise line value) where
  others _ _ := rfl
  frame := rfl

theorem slotTaken_finish (l : LegId) (s : State) (f : Finish) : SlotTaken l s (s.finish f) where
  others _ _ := rfl
  frame := rfl

@[simp] theorem State.setContact_get (s : State) (l : LegId) (c : LegContact) :
    (s.setContact l c).monitor.legs.get l = c := by simp

/-! ## A detection that sets the record and may raise -/

/-- Where the detection is due the record becomes `hit` and its line is raised with `v`; else the record becomes `miss`. -/
def detected (s : State) (l : LegId) (due : Prop) [Decidable due] (hit miss : LegContact) (line : Nat) (v : Int) : State :=
  if due then (s.setContact l hit).sendRaise line v else s.setContact l miss

/-- The raise of a detection that is due. -/
def raiseIf (due : Prop) [Decidable due] (line : Nat) (v : Int) (tag : Byte) : List Raise :=
  if due then [{ line := line, value := v, tag := tag }] else []

section
variable (s : State) (l : LegId) (due : Prop) [Decidable due] (hit miss : LegContact) (line : Nat) (v : Int)

theorem slotTaken_detected : SlotTaken l s (detected s l due hit miss line v) := by
  unfold detected
  split
  · exact (slotTaken_setContact ..).trans (slotTaken_sendRaise ..)
  · exact slotTaken_setContact ..

@[simp] theorem detected_record :
    (detected s l due hit miss line v).monitor.legs.get l = if due then hit else miss := by
  unfold detected
  split <;> simp

@[simp] theorem detected_raises :
    (detected s l due hit miss line v).wires.raises = s.wires.raises ++ raiseIf due line v s.ring.tag := by
  unfold detected raiseIf
  split <;> simp

@[simp] theorem detected_unit : (detected s l due hit miss line v).unit = s.unit := by
  unfold detected
  split <;> rfl

end

/-- A record set to what it is. -/
theorem State.setContact_self (s : State) (l : LegId) : s.setContact l (s.monitor.legs.get l) = s := by
  have h : s.monitor.legs.set l (s.monitor.legs.get l) = s.monitor.legs := by cases l <;> rfl
  unfold State.setContact
  rw [h]

/-- A detection that leaves the record where it is not due. -/
theorem detected_self (s : State) (l : LegId) (due : Prop) [Decidable due] (hit : LegContact) (line : Nat) (v : Int) :
    (if due then (s.setContact l hit).sendRaise line v else s)
      = detected s l due hit (s.monitor.legs.get l) line v := by
  unfold detected
  rw [s.setContact_self l]

/-! ## The stages as detections (R51, R56 to R60) -/

theorem staleTest_eq (s : State) (l : LegId) (was : Bool) :
    let c := s.monitor.legs.get l
    s.staleTest l was = detected s l (was = false ∧ s.degraded l = true ∧ c.staleArm = true) { c with staleArm := false }
      (if was = true ∧ s.degraded l = false then { c with staleArm := true } else c) (lineOf .baselineStale l) c.age := by
  intro c
  unfold State.staleTest detected
  by_cases hnew : was = false ∧ s.degraded l = true
  · obtain ⟨hwas, hnow⟩ := hnew
    simp [hwas, hnow, c, s.setContact_self l]
  · by_cases hback : was = true ∧ s.degraded l = false
    · obtain ⟨hwas, hnow⟩ := hback
      simp [hwas, hnow, c]
    · have hdue : ¬(was = false ∧ s.degraded l = true ∧ c.staleArm = true) := fun h => hnew ⟨h.1, h.2.1⟩
      simp only [if_neg hnew, if_neg hback, if_neg hdue]
      exact (s.setContact_self l).symm

/-- EARLY-CONTACT is due (R56). -/
abbrev earlyDue (s : State) (l : LegId) (was : Contact) (c : LegContact) : Prop :=
  s.detectsAll l = true ∧ was ≠ .loaded ∧ c.contact = .loaded ∧ (s.engine.slots.get l).swing = true
    ∧ s.monitor.settings.earlyMargin < fwd (s.engine.slots.get l).phase (s.header (s.engine.slots.get l).bank).touchdown
    ∧ c.earlyArm = true

/-- MISSED-STEP is due (R57). -/
abbrev missedDue (s : State) (l : LegId) (c : LegContact) : Prop :=
  s.detectsAll l = true ∧ (s.engine.slots.get l).swing = false ∧ (s.engine.slots.get l).parked = none
    ∧ s.monitor.settings.lateMargin < fwd (s.header (s.engine.slots.get l).bank).touchdown (s.engine.slots.get l).phase
    ∧ c.contact = .unloaded ∧ c.missedArm = true

/-- UNLOAD is due (R58). -/
abbrev unloadDue (s : State) (l : LegId) (was : Contact) (c : LegContact) : Prop :=
  s.detectsLoad l = true ∧ was = .loaded ∧ c.contact = .unloaded ∧ s.unloadWindow l = true ∧ c.unloadArm = true

/-- A fresh record counts toward SLIP (R55, R59). -/
abbrev slips (s : State) (l : LegId) (hf : Int) (now : Contact) : Prop :=
  s.detectsAll l = true ∧ (s.engine.slots.get l).swing = false ∧ now = .loaded ∧ (s.shaper.get l).prevValid = true
    ∧ s.monitor.settings.slipThreshold < s.hfError l hf

/-- A fresh record counts toward OVERTORQUE (R55, R60). -/
abbrev strains (s : State) (l : LegId) (x : PerJoint Int) : Prop := s.detectsLoad l = true ∧ 0 < s.torqueOver l x

/-- SLIP is due (R59). -/
abbrev slipDue (s : State) (l : LegId) (hf : Int) (c : LegContact) : Prop :=
  slips s l hf c.contact ∧ s.monitor.settings.slipCount ≤ satSucc c.slipCount 15 ∧ c.slipArm = true

/-- OVERTORQUE is due (R60). -/
abbrev torqueDue (s : State) (l : LegId) (x : PerJoint Int) (c : LegContact) : Prop :=
  strains s l x ∧ s.monitor.settings.torqueCount ≤ satSucc c.torqueCount 15 ∧ c.torqueArm = true

/-- The slip counter and its arm after a fresh record. -/
def afterSlip (s : State) (l : LegId) (hf : Int) (c : LegContact) : LegContact :=
  { c with slipCount := if slips s l hf c.contact then satSucc c.slipCount 15 else 0
           slipArm := !decide (slips s l hf c.contact) || (c.slipArm && !decide (slipDue s l hf c)) }

/-- The torque counter and its arm after a fresh record. -/
def afterTorque (s : State) (l : LegId) (x : PerJoint Int) (c : LegContact) : LegContact :=
  { c with torqueCount := if strains s l x then satSucc c.torqueCount 15 else 0
           torqueArm := !decide (strains s l x) || (c.torqueArm && !decide (torqueDue s l x c)) }

theorem detectEarly_eq (s : State) (l : LegId) (was : Contact) :
    let c := s.monitor.legs.get l
    s.detectEarly l was = detected s l (earlyDue s l was c) { c with earlyArm := false } c (lineOf .earlyContact l)
      (fwd (s.engine.slots.get l).phase (s.header (s.engine.slots.get l).bank).touchdown) := detected_self ..

theorem detectMissed_eq (s : State) (l : LegId) :
    let c := s.monitor.legs.get l
    s.detectMissed l = detected s l (missedDue s l c) { c with missedArm := false } c (lineOf .missedStep l)
      (fwd (s.header (s.engine.slots.get l).bank).touchdown (s.engine.slots.get l).phase) := detected_self ..

theorem detectUnload_eq (s : State) (l : LegId) (was : Contact) (load : Int) :
    let c := s.monitor.legs.get l
    s.detectUnload l was load
      = detected s l (unloadDue s l was c) { c with unloadArm := false } c (lineOf .unload l) load := detected_self ..

theorem satSucc_pos (n top : Nat) (h : 0 < top) : 0 < satSucc n top := by
  rw [satSucc_eq]
  omega

/-- A counter that may count: at 0 it re-arms its arm, and it is due where it reaches its limit armed (R55, R59, R60). -/
theorem counter_due (counts : Prop) [Decidable counts] (limit n : Nat) (arm : Bool) :
    let m := if counts then satSucc n 15 else 0
    (limit ≤ m ∧ (!decide counts || arm) = true ∧ 0 < m ↔ counts ∧ limit ≤ satSucc n 15 ∧ arm = true)
    ∧ (arm || m == 0) = (!decide counts || arm) := by
  have hpos := satSucc_pos n 15 (by decide)
  intro m
  by_cases h : counts <;> cases arm <;> simp [m, h] <;> omega

theorem detectSlip_eq (s : State) (l : LegId) (hf : Int) :
    let c := s.monitor.legs.get l
    s.detectSlip l hf = detected s l (slipDue s l hf c) (afterSlip s l hf c) (afterSlip s l hf c) (lineOf .slip l)
      (s.hfError l hf) := by
  show _ = detected s l (slipDue s l hf (s.monitor.legs.get l)) (afterSlip s l hf (s.monitor.legs.get l))
    (afterSlip s l hf (s.monitor.legs.get l)) _ _
  have hcounts : (s.detectsAll l && s.slipCounts l hf) = decide (slips s l hf (s.monitor.legs.get l).contact) := by
    rw [Bool.eq_iff_iff]
    simp only [State.slipCounts, Bool.and_eq_true, Bool.not_eq_true', beq_iff_eq, decide_eq_true_eq]
    tauto
  unfold State.detectSlip detected afterSlip
  simp only [hcounts, decide_eq_true_eq, LegContact.setSlip]
  generalize s.monitor.legs.get l = c
  obtain ⟨hdue, harm⟩ := counter_due (slips s l hf c.contact) s.monitor.settings.slipCount c.slipCount c.slipArm
  simp only [harm]
  rw [if_congr hdue rfl rfl]
  by_cases h : slipDue s l hf c
  · rw [if_pos h, if_pos h]
    simp only [decide_eq_true h.1, decide_eq_true h, Bool.not_true, Bool.and_false, Bool.or_false]
  · rw [if_neg h, if_neg h]
    simp only [decide_eq_false h, Bool.not_false, Bool.and_true, Bool.or_comm]

theorem detectTorque_eq (s : State) (l : LegId) (x : PerJoint Int) :
    let c := s.monitor.legs.get l
    s.detectTorque l x = detected s l (torqueDue s l x c) (afterTorque s l x c) (afterTorque s l x c) (lineOf .overtorque l)
      (s.torqueOver l x) := by
  show _ = detected s l (torqueDue s l x (s.monitor.legs.get l)) (afterTorque s l x (s.monitor.legs.get l))
    (afterTorque s l x (s.monitor.legs.get l)) _ _
  unfold State.detectTorque detected afterTorque
  simp only [LegContact.setTorque]
  generalize s.monitor.legs.get l = c
  obtain ⟨hdue, harm⟩ := counter_due (strains s l x) s.monitor.settings.torqueCount c.torqueCount c.torqueArm
  simp only [harm]
  rw [if_congr hdue rfl rfl]
  by_cases h : torqueDue s l x c
  · rw [if_pos h, if_pos h]
    simp only [decide_eq_true h.1, decide_eq_true h, Bool.not_true, Bool.and_false, Bool.or_false]
  · rw [if_neg h, if_neg h]
    simp only [decide_eq_false h, Bool.not_false, Bool.and_true, Bool.or_comm]

theorem slotTaken_plantFound (l : LegId) (s : State) (m : LegId) : SlotTaken l s (s.plantFound m) := by
  unfold State.plantFound
  split
  · split
    · exact slotTaken_finish ..
    · exact .refl ..
  · exact .refl ..

/-! ## A whole leg slot (R45) -/

/-- BASELINE-STALE is due at an ageing (R51). -/
abbrev staleDue (s : State) (c : LegContact) : Prop :=
  degraded c s.monitor.settings.maxAge = false ∧ degraded c.aged s.monitor.settings.maxAge = true ∧ c.staleArm = true

/-- The leg's record after stage 1. -/
def agedRecord (s : State) (l : LegId) : LegContact :=
  let c := s.monitor.legs.get l
  { c with age := satSucc c.age 65535
           staleArm := !decide (staleDue s c)
             && (c.staleArm || (degraded c s.monitor.settings.maxAge && !degraded c.aged s.monitor.settings.maxAge)) }

/-- The leg's record after stage 4 of a fresh record. -/
def capturedRecord (s : State) (l : LegId) (r : LegRec) : LegContact :=
  ((agedRecord s l).classified s.monitor.settings r.force).captured (s.engine.slots.get l).swing r.force

/-- The early arm after EARLY-CONTACT is evaluated. -/
def afterEarly (s : State) (l : LegId) (was : Contact) (c : LegContact) : LegContact :=
  { c with earlyArm := c.earlyArm && !decide (earlyDue s l was c) }

/-- The missed arm after MISSED-STEP is evaluated. -/
def afterMissed (s : State) (l : LegId) (c : LegContact) : LegContact :=
  { c with missedArm := c.missedArm && !decide (missedDue s l c) }

/-- The unload arm after UNLOAD is evaluated. -/
def afterUnload (s : State) (l : LegId) (was : Contact) (c : LegContact) : LegContact :=
  { c with unloadArm := c.unloadArm && !decide (unloadDue s l was c) }

/-- The leg's record after stage 5, from its record `c` after stage 4. -/
def detectedRecord (s : State) (l : LegId) (r : LegRec) (c : LegContact) : LegContact :=
  let was := (s.monitor.legs.get l).contact
  { c with
    earlyArm := c.earlyArm && !decide (earlyDue s l was c)
    missedArm := c.missedArm && !decide (missedDue s l c)
    unloadArm := c.unloadArm && !decide (unloadDue s l was c)
    slipCount := if slips s l r.hf c.contact then satSucc c.slipCount 15 else 0
    slipArm := !decide (slips s l r.hf c.contact) || (c.slipArm && !decide (slipDue s l r.hf c))
    torqueCount := if strains s l r.torques then satSucc c.torqueCount 15 else 0
    torqueArm := !decide (strains s l r.torques) || (c.torqueArm && !decide (torqueDue s l r.torques c)) }

/-- The leg's record after a fresh record has been taken. -/
def freshRecord (s : State) (l : LegId) (r : LegRec) : LegContact := detectedRecord s l r (capturedRecord s l r)

/-- What stage 1 raises. -/
def staleRaises (s : State) (l : LegId) : List Raise :=
  let c := s.monitor.legs.get l
  raiseIf (staleDue s c) (lineOf .baselineStale l) (satSucc c.age 65535 : Nat) s.ring.tag

/-- What stage 5 raises, from the leg's record `c` after stage 4. -/
def detectedRaises (s : State) (l : LegId) (r : LegRec) (c : LegContact) : List Raise :=
  let was := (s.monitor.legs.get l).contact
  let sl := s.engine.slots.get l
  let h := s.header sl.bank
  raiseIf (earlyDue s l was c) (lineOf .earlyContact l) (fwd sl.phase h.touchdown) s.ring.tag
    ++ raiseIf (missedDue s l c) (lineOf .missedStep l) (fwd h.touchdown sl.phase) s.ring.tag
    ++ raiseIf (unloadDue s l was c) (lineOf .unload l) ((agedRecord s l).load r.force) s.ring.tag
    ++ raiseIf (slipDue s l r.hf c) (lineOf .slip l) (s.hfError l r.hf) s.ring.tag
    ++ raiseIf (torqueDue s l r.torques c) (lineOf .overtorque l) (s.torqueOver l r.torques) s.ring.tag

section
variable (s : State) (l : LegId)

@[simp] theorem setContact_degraded (c : LegContact) :
    (s.setContact l c).degraded l = degraded c s.monitor.settings.maxAge := by
  simp [State.degraded]

theorem slotTaken_ageLeg : SlotTaken l s (s.ageLeg l) := by
  unfold State.ageLeg
  rw [staleTest_eq]
  exact (slotTaken_setContact ..).trans (slotTaken_detected ..)

theorem ageLeg_record : (s.ageLeg l).monitor.legs.get l = agedRecord s l := by
  unfold State.ageLeg agedRecord
  rw [staleTest_eq, detected_record]
  simp only [State.setContact_get, State.degraded, staleDue, degraded, LegContact.aged]
  by_cases hwas : s.monitor.settings.maxAge < (s.monitor.legs.get l).age <;>
    by_cases hnow : s.monitor.settings.maxAge < satSucc (s.monitor.legs.get l).age 65535 <;>
    cases (s.monitor.legs.get l).staleArm <;> simp [hwas, hnow]

theorem ageLeg_raises : (s.ageLeg l).wires.raises = s.wires.raises ++ staleRaises s l := by
  unfold State.ageLeg
  rw [staleTest_eq, detected_raises]
  simp only [State.setContact_get, setContact_degraded]
  rfl

theorem ageLeg_unit : (s.ageLeg l).unit = s.unit := by
  unfold State.ageLeg
  rw [staleTest_eq, detected_unit]
  rfl

@[simp] theorem agedRecord_contact : (agedRecord s l).contact = (s.monitor.legs.get l).contact := rfl

theorem takeSlot_stale : s.takeSlot l .stale = (s.ageLeg l).setContact l (agedRecord s l).stale := by
  rw [← ageLeg_record]
  rfl

end

/-- Stages 3 and 4 of a fresh record: counting, the contact, a PLANT found, the capture. -/
def State.judgeLeg (s : State) (l : LegId) (r : LegRec) : State :=
  let c := s.monitor.legs.get l
  let c1 := c.classified s.monitor.settings r.force
  let s1 := s.setContact l c1
  let s2 := if c.contact ≠ .loaded ∧ c1.contact = .loaded then s1.plantFound l else s1
  s2.setContact l (c1.captured (s.engine.slots.get l).swing r.force)

section
variable (s : State) (l : LegId) (r : LegRec)

theorem freshLeg_eq :
    let c := s.monitor.legs.get l
    s.freshLeg l r = (((((s.judgeLeg l r).detectEarly l c.contact).detectMissed l).detectUnload l c.contact
      (c.load r.force)).detectSlip l r.hf).detectTorque l r.torques := rfl

theorem slotTaken_judgeLeg : SlotTaken l s (s.judgeLeg l r) := by
  unfold State.judgeLeg
  refine SlotTaken.trans ?_ (slotTaken_setContact ..)
  split
  · exact (slotTaken_setContact ..).trans (slotTaken_plantFound ..)
  · exact slotTaken_setContact ..

@[simp] theorem plantFound_raises (m : LegId) : (s.plantFound m).wires = s.wires := by
  unfold State.plantFound
  split
  · split <;> rfl
  · rfl

theorem judgeLeg_raises : (s.judgeLeg l r).wires.raises = s.wires.raises := by
  simp only [State.judgeLeg]
  split <;> simp

theorem judgeLeg_record :
    (s.judgeLeg l r).monitor.legs.get l = ((s.monitor.legs.get l).classified s.monitor.settings r.force).captured
      (s.engine.slots.get l).swing r.force := by
  simp [State.judgeLeg]

end

/-- From the state `s` a leg slot has reached the state `t`: the record of leg `l` is `c` and `raised` has been raised. -/
structure SlotReached (l : LegId) (s t : State) (c : LegContact) (raised : List Raise) : Prop extends SlotTaken l s t where
  record : t.monitor.legs.get l = c
  raises : t.wires.raises = s.wires.raises ++ raised

section
variable {l : LegId} {s t : State} {c : LegContact} {raised : List Raise} (h : SlotReached l s t c raised)
include h

theorem SlotReached.detected {due : Prop} [Decidable due] {hit miss c' : LegContact} (line : Nat) (v : Int)
    (hc : (if due then hit else miss) = c') :
    SlotReached l s (detected t l due hit miss line v) c' (raised ++ raiseIf due line v s.ring.tag) where
  toSlotTaken := h.toSlotTaken.trans (slotTaken_detected ..)
  record := by rw [detected_record, hc]
  raises := by rw [detected_raises, h.raises, h.ring, List.append_assoc]

theorem SlotReached.detectEarly (was : Contact) :
    SlotReached l s (t.detectEarly l was) (afterEarly s l was c)
      (raised ++ raiseIf (earlyDue s l was c) (lineOf .earlyContact l)
        (fwd (s.engine.slots.get l).phase (s.header (s.engine.slots.get l).bank).touchdown) s.ring.tag) := by
  rw [detectEarly_eq, h.record]
  simp only [earlyDue, h.detectsAll, h.engine, h.settings, h.header]
  refine h.detected _ _ ?_
  unfold afterEarly
  split <;> simp [*]

theorem SlotReached.detectMissed :
    SlotReached l s (t.detectMissed l) (afterMissed s l c)
      (raised ++ raiseIf (missedDue s l c) (lineOf .missedStep l)
        (fwd (s.header (s.engine.slots.get l).bank).touchdown (s.engine.slots.get l).phase) s.ring.tag) := by
  rw [detectMissed_eq, h.record]
  simp only [missedDue, h.detectsAll, h.engine, h.settings, h.header]
  refine h.detected _ _ ?_
  unfold afterMissed
  split <;> simp [*]

theorem SlotReached.detectUnload (was : Contact) (load : Int) :
    SlotReached l s (t.detectUnload l was load) (afterUnload s l was c)
      (raised ++ raiseIf (unloadDue s l was c) (lineOf .unload l) load s.ring.tag) := by
  rw [detectUnload_eq, h.record]
  simp only [unloadDue, h.detectsLoad, h.unloadWindow]
  refine h.detected _ _ ?_
  unfold afterUnload
  split <;> simp [*]

theorem SlotReached.detectSlip (hf : Int) :
    SlotReached l s (t.detectSlip l hf) (afterSlip s l hf c)
      (raised ++ raiseIf (slipDue s l hf c) (lineOf .slip l) (s.hfError l hf) s.ring.tag) := by
  rw [detectSlip_eq, h.record]
  simp only [slipDue, slips, afterSlip, h.detectsAll, h.engine, h.shaper, h.settings, h.hfError]
  exact h.detected _ _ (ite_self _)

theorem SlotReached.detectTorque (x : PerJoint Int) :
    SlotReached l s (t.detectTorque l x) (afterTorque s l x c)
      (raised ++ raiseIf (torqueDue s l x c) (lineOf .overtorque l) (s.torqueOver l x) s.ring.tag) := by
  rw [detectTorque_eq, h.record]
  simp only [torqueDue, strains, afterTorque, h.detectsLoad, h.settings, h.torqueOver]
  exact h.detected _ _ (ite_self _)

end

/-- Stage 5, from a record `c` that stage 4 has reached. -/
theorem SlotReached.stage5 {s t : State} {l : LegId} {c : LegContact} {raised : List Raise}
    (h : SlotReached l s t c raised) (r : LegRec) :
    let was := (s.monitor.legs.get l).contact
    SlotReached l s (((((t.detectEarly l was).detectMissed l).detectUnload l was ((agedRecord s l).load r.force)).detectSlip l
      r.hf).detectTorque l r.torques) (detectedRecord s l r c) (raised ++ detectedRaises s l r c) := by
  intro was
  have hreached := ((((h.detectEarly was).detectMissed).detectUnload was ((agedRecord s l).load r.force)).detectSlip
    r.hf).detectTorque r.torques
  exact { hreached with
    raises := hreached.raises.trans (by simp only [detectedRaises, List.append_assoc]; rfl) }

/-- A fresh record takes the leg to its fresh record, raising what stages 1 and 5 raise, in their order. -/
theorem slotReached_fresh (s : State) (l : LegId) (r : LegRec) :
    SlotReached l s (s.takeSlot l (.fresh r)) (freshRecord s l r)
      (staleRaises s l ++ detectedRaises s l r (capturedRecord s l r)) := by
  have haged := slotTaken_ageLeg s l
  have hjudged : SlotReached l s ((s.ageLeg l).judgeLeg l r) (capturedRecord s l r) (staleRaises s l) :=
    { toSlotTaken := haged.trans (slotTaken_judgeLeg ..)
      record := by rw [judgeLeg_record, ageLeg_record, haged.settings, haged.engine]; rfl
      raises := by rw [judgeLeg_raises, ageLeg_raises] }
  have heq : s.takeSlot l (.fresh r) = (s.ageLeg l).freshLeg l r := rfl
  rw [heq, freshLeg_eq, ageLeg_record]
  exact hjudged.stage5 r

theorem slotReached_stale (s : State) (l : LegId) :
    SlotReached l s (s.takeSlot l .stale) (agedRecord s l).stale (staleRaises s l) where
  toSlotTaken := by
    rw [takeSlot_stale]
    exact (slotTaken_ageLeg ..).trans (slotTaken_setContact ..)
  record := by rw [takeSlot_stale, State.setContact_get]
  raises := by rw [takeSlot_stale]; exact ageLeg_raises ..

theorem slotTaken_takeSlot (s : State) (l : LegId) (slot : LegSlot) : SlotTaken l s (s.takeSlot l slot) := by
  cases slot with
  | stale => exact (slotReached_stale ..).toSlotTaken
  | fresh r => exact (slotReached_fresh ..).toSlotTaken

end Sys2Proof.Machine
end

section
/-!
The records of the contact monitor stay in the ranges of R44.
-/

namespace Sys2Proof.Machine

-- One proof after another: side by side they take more threads than the memory limit of the check allows.
set_option Elab.async false

/-! ## Lawful records -/

section
variable {s : State} {l : LegId} {c : LegContact}

theorem agedRecord_lawful (h : (s.monitor.legs.get l).lawful) : (agedRecord s l).lawful := by
  obtain ⟨hon, hoff, hbase, -, hslip, htorque, hcapture⟩ := h
  exact ⟨hon, hoff, hbase, satSucc_le _ _, hslip, htorque, hcapture⟩

theorem LegContact.stale_lawful (h : c.lawful) : c.stale.lawful := by
  obtain ⟨-, -, hbase, hage, -, -, -⟩ := h
  exact ⟨Nat.zero_le _, Nat.zero_le _, hbase, hage, Nat.zero_le _, Nat.zero_le _, fun _ hk => nomatch hk⟩

/-- What counting changes: the two counters, within 8. -/
theorem LegContact.counted_cases (c : LegContact) (st : ContactSettings) (force : Nat) :
    ∃ on off, c.counted st force = { c with onCount := on, offCount := off } ∧ on ≤ 8 ∧ off ≤ 8 := by
  unfold LegContact.counted
  dsimp only
  split
  · exact ⟨_, _, rfl, satSucc_le .., Nat.zero_le _⟩
  · split
    · exact ⟨_, _, rfl, Nat.zero_le _, satSucc_le ..⟩
    · exact ⟨_, _, rfl, Nat.zero_le _, Nat.zero_le _⟩

/-- What the classification changes: the contact, the two counters, within 8, and the unload arm. -/
theorem LegContact.classified_cases (c : LegContact) (st : ContactSettings) (force : Nat) :
    ∃ now on off arm, c.classified st force
      = { c with contact := now, onCount := on, offCount := off, unloadArm := arm } ∧ on ≤ 8 ∧ off ≤ 8 := by
  obtain ⟨on, off, heq, hon, hoff⟩ := c.counted_cases st force
  unfold LegContact.classified
  rw [heq]
  dsimp only
  split
  · exact ⟨_, _, _, _, rfl, hon, hoff⟩
  · exact ⟨_, _, _, _, rfl, Nat.zero_le _, Nat.zero_le _⟩

theorem LegContact.classified_lawful (h : c.lawful) (st : ContactSettings) (force : Nat) :
    (c.classified st force).lawful := by
  obtain ⟨now, on, off, arm, heq, hon, hoff⟩ := c.classified_cases st force
  obtain ⟨-, -, hrest⟩ := h
  rw [heq]
  exact ⟨hon, hoff, hrest⟩

theorem LegContact.captured_lawful (h : c.lawful) (swing : Bool) {force : Nat} (hf : force ≤ 4095) :
    (c.captured swing force).lawful := by
  have habandon := LegContact.abandon_lawful h
  have hsame := h
  obtain ⟨hon, hoff, hbase, hage, hslip, htorque, hcapture⟩ := h
  unfold LegContact.captured
  cases hk : c.capture with
  | none => exact hsame
  | some k =>
    obtain ⟨htaken, hsum⟩ := hcapture k hk
    dsimp only
    split
    · exact habandon
    split
    · split
      case isTrue hlast =>
        refine ⟨hon, hoff, ?_, Nat.zero_le _, hslip, htorque, fun _ hk' => nomatch hk'⟩
        show (k.sum + force) / 4 ≤ 4095
        omega
      case isFalse hmore =>
        have hmore' : k.taken + 1 ≠ 4 := hmore
        refine ⟨hon, hoff, hbase, hage, hslip, htorque, fun k' hk' => ?_⟩
        obtain rfl := Option.some.inj hk'
        exact ⟨by show k.taken + 1 ≤ 3; omega, by show k.sum + force ≤ 4095 * (k.taken + 1); omega⟩
    · exact hsame

theorem detectedRecord_lawful (h : c.lawful) (r : LegRec) : (detectedRecord s l r c).lawful := by
  obtain ⟨hon, hoff, hbase, hage, -, -, hcapture⟩ := h
  refine ⟨hon, hoff, hbase, hage, ?_, ?_, hcapture⟩
  · show (if _ then satSucc _ 15 else 0) ≤ 15
    split
    · exact satSucc_le ..
    · exact Nat.zero_le _
  · show (if _ then satSucc _ 15 else 0) ≤ 15
    split
    · exact satSucc_le ..
    · exact Nat.zero_le _

theorem freshRecord_lawful (h : (s.monitor.legs.get l).lawful) {r : LegRec} (hf : r.force ≤ 4095) :
    (freshRecord s l r).lawful :=
  detectedRecord_lawful
    (LegContact.captured_lawful (LegContact.classified_lawful (agedRecord_lawful h) _ _) _ hf) r

end

/-! ## A leg slot keeps every law -/

/-- A leg's oldest slot, taken into a lawful record, leaves every law as it is. -/
theorem SlotTaken.kept {s t : State} {l : LegId} {slot : LegSlot} {rest : List LegSlot}
    (h : SlotTaken l (s.dropSlot l rest) t) (hslots : s.wires.legSlots.get l = slot :: rest)
    (hrecord : MonitorLaw s → (t.monitor.legs.get l).lawful) : Kept s t := by
  have hothers := h.others
  have hframe := h.frame
  have hmem : ∀ m x, x ∈ (s.wires.legSlots.set l rest).get m → x ∈ s.wires.legSlots.get m := by
    intro m x hx
    obtain rfl | hm := eq_or_ne m l
    · rw [PerLeg.get_set_same] at hx
      rw [hslots]
      exact List.mem_cons_of_mem _ hx
    · rwa [PerLeg.get_set_ne _ _ hm] at hx
  generalize t.monitor.legs = legs at *
  generalize t.unit.finished = finished at *
  generalize t.wires.raises = raises at *
  subst hframe
  exact {
    monitor := fun hm => by
      obtain ⟨hlegs, hset, hforce⟩ := hm
      refine ⟨fun m => ?_, hset, fun m r hr => hforce m r (hmem m _ hr)⟩
      obtain rfl | hne := eq_or_ne m l
      · exact hrecord ⟨hlegs, hset, hforce⟩
      · show (legs.get m).lawful
        rw [hothers m hne]
        exact hlegs m
    ring := fun ⟨h1, h2, h3, h4, h5, h6, h7, h8, h9, h10, h11, hdown⟩ =>
      ⟨h1, h2, h3, h4, h5, h6, h7, h8, h9, h10, h11, fun hup =>
        absurd ((hdown hup).1 l) (by rw [hslots]; exact List.cons_ne_nil _ _)⟩ }

theorem kept_takeSlot {s : State} {l : LegId} {slot : LegSlot} {rest : List LegSlot}
    (hslots : s.wires.legSlots.get l = slot :: rest) : Kept s ((s.dropSlot l rest).takeSlot l slot) := by
  refine (slotTaken_takeSlot ..).kept hslots fun ⟨hlegs, _, hforce⟩ => ?_
  cases slot with
  | stale =>
    rw [(slotReached_stale ..).record]
    exact LegContact.stale_lawful (agedRecord_lawful (hlegs l))
  | fresh r =>
    rw [(slotReached_fresh ..).record]
    exact freshRecord_lawful (hlegs l) (hforce l r (by rw [hslots]; exact List.mem_cons_self))

theorem kept_takeSlotIf {s t : State} {l : LegId} {due : LegSlot → Bool} (h : s.takeSlotIf l due = .next t) :
    Kept s t := by
  obtain ⟨slot, rest, hslots, -, heq⟩ | heq := takeSlotIf_cases s l due
  · obtain rfl := Host.Outcome.next.inj (heq.symm.trans h)
    exact kept_takeSlot hslots
  · obtain rfl := Host.Outcome.next.inj (heq.symm.trans h)
    exact .refl s

end Sys2Proof.Machine
end

section
/-!
The commands of the joint ring controller and of the balance unit keep every law.
-/

namespace Sys2Proof.Machine

-- One proof after another: side by side they take more threads than the memory limit of the check allows.
set_option Elab.async false

/-! ## Losses (R141, R142) -/

theorem State.not_mem_ringDown_slots (s : State) (l : LegId) (x : LegSlot) : x ∉ s.ringDown.wires.legSlots.get l := by
  rw [s.ringDown_noReturns.1 l]
  exact List.not_mem_nil

/-- A sweep lost while the ring is UP that leaves it UP: the loss counts. -/
theorem kept_lossCounted (s : State) (hup : s.ring.up = true) (hdue : s.lossDue = false) :
    Kept s { s with ring := { s.ring with inFlight := none, lossCount := s.nextLoss } } where
  ring := fun ⟨hperiod, hloss, hstale, hbody, hmap, _, hcounts, hcount, _, hrun, hrest, hdown⟩ => by
    have hbelow : s.nextLoss < s.ring.lossLimit := by
      simpa [State.lossDue, hup] using hdue
    exact ⟨hperiod, hloss, hstale, hbody, hmap, fun _ hk => (nomatch hk), hcounts, hcount, satSucc_le _ _,
      fun _ => ⟨hbelow, (hrun hup).2⟩, hrest, hdown⟩

/-- A sweep lost while the ring is DOWN: the restoration begins anew. -/
theorem kept_lossWhileDown (s : State) (hup : s.ring.up = false) :
    Kept s { s with ring := { s.ring with inFlight := none, restoration := 0 } } where
  ring := fun ⟨hperiod, hloss, hstale, hbody, hmap, _, hcounts, hcount, hlosses, _, _, hdown⟩ =>
    ⟨hperiod, hloss, hstale, hbody, hmap, fun _ hk => (nomatch hk), hcounts, hcount, hlosses,
      fun h => absurd (hup.symm.trans h) (by decide), Nat.zero_lt_succ 7, hdown⟩

/-- The loss that takes the ring DOWN. -/
theorem kept_lossDown (s : State) :
    Kept s ({ s with ring := { s.ring with inFlight := none, lossCount := s.nextLoss } } : State).ringDown where
  monitor := fun ⟨hlegs, hset, _⟩ => ⟨hlegs, hset, fun l r hr => absurd hr (State.not_mem_ringDown_slots _ l _)⟩
  balance := fun ⟨h1, h2, _, h4, h5, h6, h7, h8, h9, h10, h11, h12, h13⟩ =>
    ⟨h1, h2, fun _ _ hb => (nomatch hb), h4, h5, h6, h7, h8, h9, h10, h11, h12, h13⟩
  ring := fun ⟨hperiod, hloss, hstale, _, hmap, _, hcounts, hcount, _, _, _, _⟩ =>
    ⟨hperiod, hloss, hstale, fun _ hb => (nomatch hb), hmap, fun _ hk => (nomatch hk), hcounts, hcount, satSucc_le _ _,
      fun h => (nomatch h), Nat.zero_lt_succ 7, fun _ => State.ringDown_noReturns _⟩

theorem kept_loseSweep (s : State) : Kept s s.loseSweep := by
  unfold State.loseSweep
  refine Kept.trans ?_ (kept_abortRelevel _)
  cases hup : s.ring.up with
  | false =>
    have hdue : s.lossDue = false := by simp [State.lossDue, hup]
    simpa [hdue] using kept_lossWhileDown s hup
  | true =>
    cases hdue : s.lossDue with
    | false => simpa using kept_lossCounted s hup hdue
    | true => simpa using kept_lossDown s

/-- The timer starts the next sweep (R134). -/
theorem kept_issued (s : State) :
    Kept s { s with ring := { s.ring with
      tag := s.ring.tag + 1, inFlight := some { tag := s.ring.tag + 1, map := s.ring.legMap }, timerPeriod := s.ring.period
      lastSweep := some (s.buildSweep (s.ring.tag + 1)) } } where
  ring := fun ⟨hperiod, hloss, hstale, hbody, hmap, _, hcounts, hcount, hlosses, hrun, hrest, hdown⟩ =>
    ⟨hperiod, hloss, hstale, hbody, hmap, fun _ hk => by obtain rfl := Option.some.inj hk; exact ⟨rfl, hmap⟩, hcounts,
      hcount, hlosses, hrun, hrest, hdown⟩

theorem kept_issue (s : State) : Kept s s.issue := by
  unfold State.issue
  split
  · exact (kept_loseSweep s).trans (kept_issued _)
  · exact kept_issued s

/-! ## Sweep returns (R138 to R140, R144) -/

theorem handedSlot_force {f : RingFrame} {map : PerNode Nat} {l : LegId} {r : LegRec}
    (h : handedSlot f map l = .fresh r) : r.force ≤ 4095 := by
  unfold handedSlot at h
  split at h
  · obtain rfl := LegSlot.fresh.inj h
    exact Nat.min_le_right _ _
  · cases h

theorem handedBody_lawful {f : RingFrame} {map : PerNode Nat} {n : Nat} {r : BodyRec}
    (h : (handedBody f map n).slot = .fresh r) : r.lawful := by
  unfold handedBody at h
  dsimp only at h
  split at h
  · obtain rfl := BodySlot.fresh.inj h
    exact readBodyRec_lawful _
  · cases h

theorem staleAfter_le {count : Nat} (fresh : Bool) : staleAfter count fresh ≤ 15 := by
  unfold staleAfter
  split
  · exact Nat.zero_le _
  · exact satSucc_le ..

theorem Supervisor.quiesced_cases (p : Supervisor) : ∃ n, p.quiesced = { p with quiesce := n } ∧ (p.quiesce ≤ 4000 → n ≤ 4000) := by
  unfold Supervisor.quiesced
  split
  · exact ⟨_, rfl, fun _ => satSucc_le _ _⟩
  · exact ⟨_, rfl, id⟩

theorem State.takeAngles_record (s : State) (f : RingFrame) (map : PerNode Nat) (l : LegId) :
    (s.takeAngles f map l).record = (s.shaper.get l).record ∧ (s.takeAngles f map l).prev = (s.shaper.get l).prev := by
  unfold State.takeAngles
  dsimp only
  split <;> exact ⟨rfl, rfl⟩

theorem kept_sweepReturn (s : State) (f : RingFrame) (map : PerNode Nat) (hup : s.ring.up = true) :
    Kept s (s.sweepReturn f map) := by
  obtain ⟨n, hsup, hn⟩ := s.sup.quiesced_cases
  unfold State.sweepReturn
  rw [hsup]
  exact {
    supervisor := fun ⟨hout, hposture, hquiesce, hgait⟩ => ⟨hout, hposture, hn hquiesce, hgait⟩
    monitor := fun ⟨hlegs, hset, hforce⟩ => ⟨hlegs, hset, fun l r hr => by
      have hmem : LegSlot.fresh r ∈ s.wires.legSlots.get l ++ [handedSlot f map l] := by
        simpa [State.handInward] using hr
      obtain hold | hnew := List.mem_append.mp hmem
      · exact hforce l r hold
      · exact handedSlot_force (List.mem_singleton.mp hnew).symm⟩
    balance := fun ⟨h1, h2, hslots, h4, h5, h6, h7, h8, h9, h10, h11, h12, h13⟩ =>
      ⟨h1, h2, fun b r hb hr => by
        obtain hold | hnew := List.mem_append.mp hb
        · exact hslots b r hold hr
        · obtain rfl := List.mem_singleton.mp hnew
          exact handedBody_lawful hr, h4, h5, h6, h7, h8, h9, h10, h11, h12, h13⟩
    drive := fun ⟨hhold, hlimits, hpos⟩ => by
      have hshape : ∀ l, ((PerLeg.ofFn (s.takeAngles f map)).get l).record = (s.shaper.get l).record
          ∧ ((PerLeg.ofFn (s.takeAngles f map)).get l).prev = (s.shaper.get l).prev := fun l => by
        rw [PerLeg.get_ofFn]
        exact s.takeAngles_record f map l
      exact ⟨fun hop l => (hshape l).1 ▸ hhold hop l, hlimits, fun l t k tag h =>
        (hshape l).2 ▸ hpos l t k tag ((hshape l).1 ▸ h)⟩
    ring := fun ⟨hperiod, hloss, hstale, hbody, hmap, hflight, _, _, _, hrun, hrest, _⟩ =>
      ⟨hperiod, hloss, hstale, fun b hb => by
        obtain hold | hnew := List.mem_append.mp hb
        · exact hbody b hold
        · obtain rfl := List.mem_singleton.mp hnew
          exact hstale, hmap, hflight, fun l => by
        simp only [State.judgeSlots, PerLeg.get_ofFn]
        exact staleAfter_le _, staleAfter_le _, Nat.zero_le _, fun _ => ⟨hloss.1, (hrun hup).2⟩, hrest,
        fun hdown => absurd (hup.symm.trans hdown) (by decide)⟩ }

theorem kept_landed (s : State) : Kept s { s with ring := { s.ring with inFlight := none } } where
  ring := fun ⟨hperiod, hloss, hstale, hbody, hmap, _, hrest⟩ =>
    ⟨hperiod, hloss, hstale, hbody, hmap, fun _ hk => (nomatch hk), hrest⟩

theorem kept_ringUp (s : State) : Kept s s.ringUp := by
  unfold State.ringUp
  refine Kept.trans ?_ (kept_alert ..)
  exact {
    ring := fun ⟨hperiod, hloss, hstale, hbody, hmap, hflight, hcounts, hcount, _, _, _, _⟩ =>
      ⟨hperiod, hloss, hstale, hbody, hmap, hflight, hcounts, hcount, Nat.zero_le _, fun _ => ⟨hloss.1, rfl⟩,
        Nat.zero_lt_succ 7, fun h => (nomatch h)⟩ }

theorem kept_goodReturn (s : State) (f : RingFrame) (map : PerNode Nat) (hup : s.ring.up = false) :
    Kept s (s.goodReturn f map) := by
  unfold State.goodReturn
  split
  case isTrue => exact (kept_ringUp s).trans (kept_sweepReturn _ _ _ rfl)
  case isFalse hmore =>
    have hmore' : s.ring.restoration + 1 ≠ 8 := hmore
    exact {
      ring := fun ⟨hperiod, hloss, hstale, hbody, hmap, hflight, hcounts, hcount, hlosses, _, hrest, hdown⟩ =>
        ⟨hperiod, hloss, hstale, hbody, hmap, hflight, hcounts, hcount, hlosses,
          fun h => absurd (hup.symm.trans h) (by decide), by show s.ring.restoration + 1 < 8; omega, hdown⟩ }

theorem kept_takeReturn (s : State) (f : RingFrame) : Kept s (s.takeReturn f) := by
  unfold State.takeReturn
  split
  · exact .refl s
  · split
    · dsimp only
      split
      · exact (kept_landed s).trans (kept_sweepReturn _ _ _ ‹_›)
      · exact (kept_landed s).trans (kept_goodReturn _ _ _ (Bool.eq_false_iff.mpr ‹_›))
    · exact kept_loseSweep s

/-! ## The body slots (R65 to R67, R70, R77, R78) -/

theorem kept_dropBody {s : State} {b : HandedBody} {rest : List HandedBody} (h : s.wires.bodySlots = b :: rest) :
    Kept s (s.dropBody rest) where
  balance := fun ⟨h1, h2, hslots, h4, h5, h6, h7, h8, h9, h10, h11, h12, h13⟩ =>
    ⟨h1, h2, fun b' r hb => hslots b' r (h ▸ List.mem_cons_of_mem _ hb), h4, h5, h6, h7, h8, h9, h10, h11, h12, h13⟩
  ring := fun ⟨h1, h2, h3, hbody, h5, h6, h7, h8, h9, h10, h11, hdown⟩ =>
    ⟨h1, h2, h3, fun b' hb => hbody b' (h ▸ List.mem_cons_of_mem _ hb), h5, h6, h7, h8, h9, h10, h11, fun hup =>
      absurd (hdown hup).2.1 (by rw [h]; exact List.cons_ne_nil _ _)⟩

theorem kept_tiltArm (s : State) (b : Bool) : Kept s { s with balance := { s.balance with tiltArm := b } } where
theorem kept_fallArm (s : State) (b : Bool) : Kept s { s with balance := { s.balance with fallArm := b } } where
theorem kept_blind (s : State) (b : Bool) : Kept s { s with balance := { s.balance with blind := b } } where

theorem kept_tiltTest (s : State) : Kept s s.tiltTest := by
  unfold State.tiltTest
  split
  · split
    · exact (kept_tiltArm s false).trans (kept_sendRaise ..)
    · exact .refl s
  · exact kept_tiltArm s true

theorem kept_fallTest (s : State) : Kept s s.fallTest := by
  unfold State.fallTest
  split
  · split
    · exact (kept_fallArm s false).trans (kept_sendRaise ..)
    · exact .refl s
  · exact kept_fallArm s true

/-- A body slot leaves the wire and its usable record is held. -/
theorem kept_heldBody {s : State} {b : HandedBody} {rest : List HandedBody} {r : BodyRec}
    (h : s.wires.bodySlots = b :: rest) (hr : b.slot = .fresh r) :
    Kept s { s.dropBody rest with balance := s.balance.hold r } where
  toLawsKept := { (kept_dropBody h).toLawsKept with
    balance := fun ⟨_, _, hslots, h4, h5, _, h7, h8, h9, h10, h11, h12, h13⟩ =>
      ⟨hslots b r (h ▸ List.mem_cons_self) hr,
        ⟨clampI_bounds _ (by decide), clampI_bounds _ (by decide)⟩,
        fun b' r' hb => hslots b' r' (h ▸ List.mem_cons_of_mem _ hb), h4, h5, Nat.zero_le _, h7, h8, h9, h10, h11, h12, h13⟩ }

theorem kept_endBlindness (s : State) : Kept s s.endBlindness := by
  unfold State.endBlindness
  split
  · exact (kept_blind s false).trans (kept_alert ..)
  · exact .refl s

theorem kept_relevelTakes (s : State) (r : BodyRec) : Kept s { s with balance := s.balance.relevelTakes r } where
  balance h := by
    unfold Balance.relevelTakes
    cases hk : s.balance.relevel with
    | none => exact h
    | some k =>
      dsimp only
      obtain ⟨h1, h2, hslots, h4, h5, h6, h7, h8, h9, h10, h11, h12, h13⟩ := h
      split
      · exact ⟨h1, h2, hslots, h4, h5, h6, clampI_bounds _ (by decide), clampI_bounds _ (by decide), h9, rfl, h11,
          fun _ hk => (nomatch hk), h13⟩
      case isFalse hmore =>
        have hmore' : k.taken + 1 ≠ 16 := hmore
        refine ⟨h1, h2, hslots, h4, h5, h6, h7, h8, h9, h10, h11, fun k' hk' => ?_, h13⟩
        obtain ⟨htaken, hop⟩ := h12 k hk
        obtain rfl := Option.some.inj hk'
        exact ⟨by show k.taken + 1 ≤ 15; omega, hop⟩

theorem kept_usableBody {s : State} {b : HandedBody} {rest : List HandedBody} {r : BodyRec}
    (h : s.wires.bodySlots = b :: rest) (hr : b.slot = .fresh r) : Kept s ((s.dropBody rest).usableBody r) := by
  unfold State.usableBody
  exact ((((kept_heldBody h hr).trans (kept_endBlindness _)).trans (kept_relevelTakes _ r)).trans (kept_tiltTest _)).trans
    (kept_fallTest _)

theorem kept_unusable (s : State) : Kept s { s with balance := { s.balance with unusable := satSucc s.balance.unusable 15 } } where
  balance := fun ⟨h1, h2, hslots, h4, h5, _, hrest⟩ => ⟨h1, h2, hslots, h4, h5, satSucc_le _ _, hrest⟩

theorem kept_unusableBody (s : State) (n : Nat) : Kept s (s.unusableBody n) := by
  unfold State.unusableBody
  dsimp only
  have h := (kept_unusable s).trans (kept_abortRelevel _)
  split
  · exact (h.trans (kept_blind _ true)).trans (kept_alert ..)
  · exact h

theorem kept_takeBodyIf {s t : State} {due : HandedBody → Bool} (h : s.takeBodyIf due = .next t) : Kept s t := by
  obtain ⟨b, rest, hslots, -, heq, hcase⟩ | heq := takeBodyIf_cases s due
  · obtain rfl := Host.Outcome.next.inj (heq.symm.trans h)
    obtain ⟨r, hr, -, hbody⟩ | ⟨-, hbody⟩ := hcase
    · rw [hbody]
      exact kept_usableBody hslots hr
    · rw [hbody]
      exact (kept_dropBody hslots).trans (kept_unusableBody ..)
  · obtain rfl := Host.Outcome.next.inj (heq.symm.trans h)
    exact .refl s

end Sys2Proof.Machine
end

section
/-!
The commands of the phase engine and of the joint shaper, and the report of an advance, keep every law.
-/

namespace Sys2Proof.Machine

-- One proof after another: side by side they take more threads than the memory limit of the check allows.
set_option Elab.async false

/-! ## The report of an advance (R31, R52, R54, R56, R57, R112) -/

theorem monitorReport_lawful {s : State} {l : LegId} (h : (s.monitor.legs.get l).lawful) (r : LegReport) :
    (s.monitorReport l r).lawful := by
  have hkept : ∀ (early missed : Bool) (k : Option Capture), k = none ∨ k = (s.monitor.legs.get l).capture
      ∨ k = some { taken := 0, sum := 0 } →
      LegContact.lawful { s.monitor.legs.get l with earlyArm := early, missedArm := missed, capture := k } := by
    intro early missed k hk
    obtain ⟨hon, hoff, hbase, hage, hslip, htorque, hcapture⟩ := h
    refine ⟨hon, hoff, hbase, hage, hslip, htorque, fun x hx => ?_⟩
    obtain rfl | rfl | rfl := hk
    · cases hx
    · exact hcapture x hx
    · obtain rfl := Option.some.inj hx
      exact ⟨Nat.zero_le _, Nat.le_refl _⟩
  unfold State.monitorReport
  dsimp only
  split
  · split
    · exact hkept _ _ _ (.inr (.inr rfl))
    · exact hkept _ _ _ (.inr (.inr rfl))
  · split
    · exact hkept _ _ _ (.inl rfl)
    · exact hkept _ _ _ (.inr (.inl rfl))

theorem kept_setContact (s : State) (l : LegId) (c : LegContact) (h : (s.monitor.legs.get l).lawful → c.lawful) :
    Kept s (s.setContact l c) where
  monitor := fun ⟨hlegs, hset, hforce⟩ => ⟨fun m => by
    rw [State.setContact_monitor]
    obtain rfl | hne := eq_or_ne m l
    · rw [PerLeg.get_set_same]
      exact h (hlegs m)
    · rw [PerLeg.get_set_ne _ _ hne]
      exact hlegs m, hset, hforce⟩

theorem kept_clearReach (s : State) (l : LegId) :
    Kept s { s with unit := { s.unit with reachHold := s.unit.reachHold.set l 0 } } where
  reflexUnit := fun ⟨hweight, hhold, hrest⟩ => ⟨hweight, reachHold_set_zero hhold l, hrest⟩

theorem kept_takeLegReport (s : State) (l : LegId) (r : Option LegReport) : Kept s (s.takeLegReport l r) := by
  unfold State.takeLegReport
  cases r with
  | none => exact .refl s
  | some r =>
    have h := kept_setContact s l (s.monitorReport l r) fun h => monitorReport_lawful h r
    dsimp only
    split
    · exact h.trans (kept_clearReach _ l)
    · exact h

theorem kept_advanceReport {s t : State} (h : execAdvanceReport s = .next t) : Kept s t := by
  unfold execAdvanceReport at h
  split at h
  · cases h; exact .refl s
  · cases h
    exact Kept.trans {} (kept_foldl _ (fun _ _ => kept_takeLegReport ..) _ _)

/-! ## The stages of an advance (R26 to R39) -/

/-- Stage 1 of an advance (R26, R27). -/
def rated (s : State) : State := { s with engine := { s.engine with rate := s.steppedRate, amp := s.steppedAmp } }

/-- Stage 2 of an advance, with the word whether the pending gait was applied (R29, R34). -/
def wrapped (s : State) : State × Bool := (rated s).wrapGait s.steppedRate

/-- Stages 3 to 5 of an advance, from the state after stage 2: the master and the slots (R30, R37, R39). -/
def played (s : State) (r : Nat) (w : Bool) : State :=
  { s with engine := { s.engine with
    master := s.engine.master + BitVec.ofNat 16 r, slots := .ofFn (s.playedSlot s.engine.master r w) } }

/-- The state after stage 5 of an advance. -/
def moved (s : State) : State := played (wrapped s).1 s.steppedRate (wrapped s).2

/-- The pending gait `g` applied at the wrap (R34). -/
def wrappedTo (s : State) (g : Nat) : State :=
  { s with engine := { s.engine with current := g, pendingGait := none, slots := .ofFn (s.wrapSlot g) } }

/-- Stage 6 of an advance: what it reports of each leg (R31). -/
def advanceReports (s : State) : PerLeg (Option LegReport) :=
  .ofFn ((moved s).reportFor s.engine.slots s.steppedRate (wrapped s).2)

theorem doAdvance_eq (s : State) :
    s.doAdvance
      = ({ moved s with wires := { (moved s).wires with reports := (moved s).wires.reports ++ [advanceReports s] } }
          : State).reportParked := rfl

/-- A pending gait is applied where the master wraps, and only there (R29, R34). -/
theorem wrapped_cases (s : State) :
    (∃ g, s.engine.pendingGait = some g ∧ 65536 ≤ s.engine.master.toNat + s.steppedRate
        ∧ wrapped s = (wrappedTo (rated s) g, true))
    ∨ ((∀ g, s.engine.pendingGait = some g → s.engine.master.toNat + s.steppedRate < 65536)
        ∧ wrapped s = (rated s, false)) := by
  unfold wrapped State.wrapGait
  split
  case h_1 g hg =>
    split
    · exact .inl ⟨g, hg, ‹_›, rfl⟩
    · exact .inr ⟨fun _ _ => Nat.lt_of_not_le ‹_›, rfl⟩
  case h_2 hg => exact .inr ⟨fun _ hg' => (nomatch hg.symm.trans hg'), rfl⟩

/-! ## The slots of an advance -/

/-- Stages 4 and 5 leave a slot's bank, offset and mirror flag. -/
theorem playSlot_member (op : OpState) (h : Header) (sl : Slot) (mOld mNew : Phase) (r : Nat) (w : Bool) :
    (playSlot op h sl mOld mNew r w).bank = sl.bank ∧ (playSlot op h sl mOld mNew r w).offset = sl.offset
    ∧ (playSlot op h sl mOld mNew r w).mirror = sl.mirror := by
  unfold playSlot
  split
  · dsimp only
    split <;> exact ⟨rfl, rfl, rfl⟩
  · split <;> exact ⟨rfl, rfl, rfl⟩

/-- After stages 4 and 5 a slot stands as R30 says, if it did while it was parked. -/
theorem playSlot_phased {s : State} {sl : Slot} (hparked : sl.parked ≠ none → SlotPhased s sl) (op : OpState)
    (mOld mNew : Phase) (r : Nat) (w : Bool) : SlotPhased s (playSlot op (s.header sl.bank) sl mOld mNew r w) := by
  unfold playSlot
  cases hp : sl.parked with
  | none =>
    dsimp only
    split
    · exact ⟨rfl, rfl⟩
    · simp only [SlotPhased]
  | some at_ =>
    dsimp only
    split
    · rfl
    · exact hparked (by simp [hp])

theorem playedSlot_cases (s : State) (mOld : Phase) (r : Nat) (w : Bool) (l : LegId) :
    (s.playing l = true ∧ s.playedSlot mOld r w l
      = playSlot s.sup.op (s.header (s.engine.slots.get l).bank) (s.engine.slots.get l) mOld (mOld + BitVec.ofNat 16 r) r w)
    ∨ (s.playing l = false ∧ s.playedSlot mOld r w l = s.engine.slots.get l) := by
  unfold State.playedSlot
  cases s.playing l <;> simp

theorem playedSlot_bank (s : State) (mOld : Phase) (r : Nat) (w : Bool) (l : LegId) :
    (s.playedSlot mOld r w l).bank = (s.engine.slots.get l).bank := by
  obtain ⟨-, h⟩ | ⟨-, h⟩ := playedSlot_cases s mOld r w l
  · rw [h, (playSlot_member ..).1]
  · rw [h]

theorem playedSlot_filled {s : State} {x : Option (Member × Bool)} {l : LegId} (hx : x.isSome = s.playing l)
    (h : SlotFilled x (s.engine.slots.get l)) (mOld : Phase) (r : Nat) (w : Bool) :
    SlotFilled x (s.playedSlot mOld r w l) := by
  obtain ⟨hplay, heq⟩ | ⟨-, heq⟩ := playedSlot_cases s mOld r w l
  · rw [heq]
    obtain ⟨m, rfl⟩ := Option.isSome_iff_exists.mp (hx.trans hplay)
    obtain ⟨hbank, hoffset, hmirror⟩ := playSlot_member s.sup.op (s.header (s.engine.slots.get l).bank) (s.engine.slots.get l) mOld
      (mOld + BitVec.ofNat 16 r) r w
    obtain ⟨h1, h2, h3⟩ := h
    exact ⟨hbank.trans h1, hoffset.trans h2, hmirror.trans h3⟩
  · rw [heq]; exact h

/-- A slot at the wrap holds its new member (R34). -/
theorem wrapSlot_filled (s : State) (g : Nat) (l : LegId) :
    SlotFilled (slotMember (s.gait g) s.sup.modes l) (s.wrapSlot g l) := by
  unfold State.wrapSlot
  cases slotMember (s.gait g) s.sup.modes l with
  | none => rfl
  | some m =>
    dsimp only
    split <;> exact ⟨rfl, rfl, rfl⟩

/-- A leg that is parked after the wrap stands at its new touchdown phase (R34). -/
theorem wrapSlot_phased (s : State) (g : Nat) (l : LegId) (h : (s.wrapSlot g l).parked ≠ none) :
    SlotPhased s (s.wrapSlot g l) := by
  revert h
  unfold State.wrapSlot
  cases slotMember (s.gait g) s.sup.modes l with
  | none => exact fun _ => slotPhased_restSlot s
  | some m =>
    dsimp only
    split
    · exact fun _ => slotPhased_parkedSlot ..
    · rename_i hp
      intro h
      exact absurd (by simpa using hp) h

/-! ## An advance keeps every law -/

theorem steppedRate_le {s : State} (h : RateLaw s) : s.steppedRate ≤ rateCap s.engine.walk s.sup.modes := by
  obtain ⟨hwalk, -, htarget, hrate, -⟩ := h
  have hstep := (stepToward_between s.engine.rate s.engine.intent.rateTarget s.engine.walk.rateStep).2
  have hfloor := (rateCap_bounds hwalk s.sup.modes).1
  unfold State.steppedRate
  dsimp only
  split <;> omega

theorem kept_rated (s : State) (hop : s.sup.op.isMoving = true) : Kept s (rated s) where
  rate h := by
    have hle := steppedRate_le h
    obtain ⟨hwalk, hfloor, htarget, -, -, hamp, hampT, hrest⟩ := h
    have hstep := (stepToward_between s.engine.amp s.engine.intent.ampTarget s.engine.walk.ampStep).2
    exact ⟨hwalk, hfloor, htarget, hle, fun h => absurd (hop.symm.trans h) (by decide),
      by show stepToward _ _ _ ≤ 256; omega, hampT, hrest⟩

theorem profileLaw_played {s : State} (h : ProfileLaw s) (r : Nat) (w : Bool) : ProfileLaw (played s r w) := by
  have hkeep := h
  obtain ⟨-, -, -, -, -, hcur, hpend⟩ := hkeep
  refine h.of_engine _ hcur hpend fun l => ?_
  dsimp only
  rw [PerLeg.get_ofFn, playedSlot_bank]
  exact h.slot_ready l

/-- Stages 4 and 5 leave every slot filled, and standing as R30 says, where the parked slots did. -/
theorem slots_played {s : State}
    (hfilled : ∀ l, SlotFilled (slotMember (s.gait s.engine.current) s.sup.modes l) (s.engine.slots.get l))
    (hparked : ∀ l, (s.engine.slots.get l).parked ≠ none → SlotPhased s (s.engine.slots.get l)) (r : Nat) (w : Bool)
    (l : LegId) :
    SlotFilled (slotMember (s.gait s.engine.current) s.sup.modes l) ((played s r w).engine.slots.get l)
    ∧ SlotPhased s ((played s r w).engine.slots.get l) := by
  unfold played
  dsimp only
  rw [PerLeg.get_ofFn]
  refine ⟨playedSlot_filled rfl (hfilled l) _ _ _, ?_⟩
  obtain ⟨-, heq⟩ | ⟨hrest, heq⟩ := playedSlot_cases s s.engine.master r w l
  · rw [heq]
    exact playSlot_phased (hparked l) ..
  · have hslot := hfilled l
    have hnone : slotMember (s.gait s.engine.current) s.sup.modes l = none := by simpa [State.playing] using hrest
    rw [hnone] at hslot
    have hslot' : s.engine.slots.get l = restSlot := hslot
    rw [heq, hslot']
    exact slotPhased_restSlot s

theorem kept_played {s : State} (hstand : s.sup.op ≠ .standing) (r : Nat) (w : Bool) : Kept s (played s r w) where
  profile h := profileLaw_played h r w
  slots := fun _ _ ⟨hfilled, hphased, _, hlegal, hpend⟩ =>
    have h := slots_played hfilled (fun l _ => hphased l) r w
    ⟨fun l => (h l).1, fun l => (h l).2, fun hop => absurd hop hstand, hlegal, hpend⟩

theorem wrapSlot_ready {s : State} (h : ProfileLaw s) (g : Nat) (l : LegId) :
    (s.bank (s.wrapSlot g l).bank).isReady = true := by
  have hfilled := wrapSlot_filled s g l
  cases hm : slotMember (s.gait g) s.sup.modes l with
  | none =>
    rw [hm] at hfilled
    rw [show s.wrapSlot g l = restSlot from hfilled]
    exact h.rest_ready
  | some m =>
    rw [hm] at hfilled
    obtain ⟨hbank, -⟩ := hfilled
    rw [hbank]
    exact h.member_ready hm

theorem kept_playedWrapped {s : State} {g : Nat} (hg : s.engine.pendingGait = some g) (hstand : s.sup.op ≠ .standing)
    (r : Nat) (w : Bool) : Kept s (played (wrappedTo s g) r w) where
  profile h := by
    have hkeep := h
    obtain ⟨-, -, -, -, -, -, hpend⟩ := hkeep
    refine profileLaw_played (h.of_engine (wrappedTo s g).engine (hpend g hg) (fun _ hp => nomatch hp) fun l => ?_) r w
    rw [show (wrappedTo s g).engine.slots.get l = s.wrapSlot g l from PerLeg.get_ofFn ..]
    exact wrapSlot_ready h g l
  supervisor := fun ⟨h1, h2, h3, _⟩ => ⟨h1, h2, h3, fun hp => nomatch hp⟩
  slots := fun _ _ ⟨_, _, _, _, hlegal⟩ =>
    have hslot : ∀ l, (wrappedTo s g).engine.slots.get l = s.wrapSlot g l := fun l => PerLeg.get_ofFn ..
    have h := slots_played (s := wrappedTo s g) (fun l => by rw [hslot]; exact wrapSlot_filled s g l)
      (fun l hp => by rw [hslot] at hp ⊢; exact wrapSlot_phased s g l hp) r w
    ⟨fun l => (h l).1, fun l => (h l).2, fun hop => absurd hop hstand, fun _ => hlegal g hg, fun _ hp => nomatch hp⟩

theorem kept_moved {s : State} (hop : s.sup.op.isMoving = true) : Kept s (moved s) := by
  have hstand : s.sup.op ≠ .standing := by
    intro h
    rw [h] at hop
    exact absurd hop (by decide)
  refine (kept_rated s hop).trans ?_
  unfold moved
  obtain ⟨g, hg, -, heq⟩ | ⟨-, heq⟩ := wrapped_cases s
  · rw [heq]
    exact kept_playedWrapped (s := rated s) hg hstand ..
  · rw [heq]
    exact kept_played (s := rated s) hstand ..

theorem kept_doAdvance {s : State} (hop : s.sup.op.isMoving = true) : Kept s s.doAdvance := by
  rw [doAdvance_eq]
  exact ((kept_moved hop).trans {}).trans (kept_reportParked _)

theorem kept_countReturn (s : State) : Kept s s.countReturn where
  rate := fun ⟨h1, h2, h3, h4, h5, h6, h7, h8, h9, _, hhold⟩ =>
    ⟨h1, h2, h3, h4, h5, h6, h7, h8, h9, satSucc_le _ _, (Nat.sub_le _ _).trans hhold⟩

theorem kept_raiseLinkLoss (s : State) : Kept s s.raiseLinkLoss := Kept.trans {} (kept_sendRaise ..)

/-- The state after the advance of a sweep return, where it brings one. -/
def advanced (s : State) : State := if s.advances then s.doAdvance else s

/-- The engine's work on a sweep return, before it issues the phase update. -/
def counted (s : State) : State :=
  if (advanced s).countReturn.linkLossDue then (advanced s).countReturn.raiseLinkLoss else (advanced s).countReturn

theorem engineReturn_eq (s : State) (tag : Byte) :
    s.engineReturn tag
      = { counted s with wires := { (counted s).wires with phaseUpdates := (counted s).wires.phaseUpdates ++ [tag] } } := rfl

theorem kept_advanced (s : State) : Kept s (advanced s) := by
  unfold advanced
  split
  · rename_i h
    exact kept_doAdvance (Bool.and_eq_true _ _ ▸ h).1
  · exact .refl s

theorem kept_counted (s : State) : Kept s (counted s) := by
  have h := (kept_advanced s).trans (kept_countReturn _)
  unfold counted
  split
  · exact h.trans (kept_raiseLinkLoss _)
  · exact h

theorem moved_ring (s : State) : (moved s).ring = s.ring := by
  unfold moved
  obtain ⟨g, -, -, heq⟩ | ⟨-, heq⟩ := wrapped_cases s <;> rw [heq] <;> rfl

theorem counted_up (s : State) : (counted s).ring.up = s.ring.up := by
  have h : (advanced s).ring.up = s.ring.up := by
    unfold advanced
    split
    · rw [doAdvance_eq, (keeps_reportParked _).up]
      exact congrArg Ring.up (moved_ring s)
    · rfl
  unfold counted
  split <;> exact h

/-- A sweep return that waited is taken: the ring was not DOWN, and the phase update may wait. -/
theorem kept_engineReturn {s : State} {tag : Byte} {rest : List Byte} (h : s.wires.sweepReturns = tag :: rest) :
    Kept s ((s.dropReturn rest).engineReturn tag) := by
  have hup : RingLaw s → s.ring.up ≠ false := fun ⟨_, _, _, _, _, _, _, _, _, _, _, hdown⟩ hup => by
    obtain ⟨-, -, hnone, -⟩ := hdown hup
    exact nomatch h.symm.trans hnone
  have hdropped : Kept s (s.dropReturn rest) := {
    ring := fun hr => by
      have hne := hup hr
      obtain ⟨h1, h2, h3, h4, h5, h6, h7, h8, h9, h10, h11, -⟩ := hr
      exact ⟨h1, h2, h3, h4, h5, h6, h7, h8, h9, h10, h11, fun hdown => absurd hdown hne⟩ }
  have hkept := hdropped.trans (kept_counted _)
  rw [engineReturn_eq]
  have hring : (counted (s.dropReturn rest)).ring.up = s.ring.up := by rw [counted_up]; rfl
  exact {
    toLawsKept := { hkept.toLawsKept with
      ring := fun hr => by
        obtain ⟨h1, h2, h3, h4, h5, h6, h7, h8, h9, h10, h11, -⟩ := hkept.ring hr
        exact ⟨h1, h2, h3, h4, h5, h6, h7, h8, h9, h10, h11, fun hdown => absurd (hring.symm.trans hdown) (hup hr)⟩ }
    reset := hkept.reset }

theorem kept_advance {s t : State} (h : execAdvance s = .next t) : Kept s t := by
  unfold execAdvance at h
  split at h
  · cases h; exact .refl s
  · cases h
    exact kept_engineReturn ‹_›

theorem kept_linkLoss {s t : State} (h : execLinkLoss s = .next t) : Kept s t := by
  unfold execLinkLoss at h
  split at h
  · cases h; exact .refl s
  · split at h
    · cases h
      exact kept_engineReturn ‹_›
    · cases h; exact .refl s

/-! ## Composition (R121, R123, R130) -/

theorem positions_config {s : State} (h : s.sup.op = .config) (l : LegId) : s.positions l = none := by
  unfold State.positions
  rw [if_pos h]

theorem positions_limits {s : State} {l : LegId} {lims : PerJoint JointLimits} (h : s.positions l = some lims) :
    s.limits.get l = some lims := by
  unfold State.positions at h
  split at h
  · cases h
  · split at h
    · cases h
    · exact h

theorem composeLeg_none {s : State} {l : LegId} (h : s.positions l = none) (tag : Byte) :
    s.composeLeg tag l = { s.shaper.get l with prevValid := false, record := .hold tag } := by
  unfold State.composeLeg
  rw [h]

theorem composeLeg_some {s : State} {l : LegId} {lims : PerJoint JointLimits} (h : s.positions l = some lims) (tag : Byte) :
    s.composeLeg tag l = { s.shaper.get l with
      prev := .ofFn (s.target l lims), prevValid := true
      record := .position (.ofFn (s.target l lims)) (s.stiffness l) tag } := by
  unfold State.composeLeg
  rw [h]

theorem JointLimits.neutral_mem {j : JointLimits} (h : j.good = true) : j.min ≤ j.neutral ∧ j.neutral ≤ j.max := by
  unfold JointLimits.good at h
  simp only [Bool.and_eq_true, inRange, decide_eq_true_eq] at h
  obtain ⟨⟨-, h⟩, -⟩ := h
  exact h

theorem target_bounds {s : State} {lims : PerJoint JointLimits} (hgood : ∀ j, (lims.get j).good = true) (l : LegId)
    (j : JointId) : (lims.get j).min ≤ s.target l lims j ∧ s.target l lims j ≤ (lims.get j).max := by
  unfold State.target
  obtain ⟨hle, hle'⟩ := JointLimits.neutral_mem (hgood j)
  exact clampI_bounds _ (hle.trans hle')

theorem kept_composition {s t : State} (h : execComposition s = .next t) : Kept s t := by
  unfold execComposition at h
  split at h
  · cases h; exact .refl s
  · rename_i tag rest hup
    cases h
    exact {
      drive := fun ⟨_, hlimits, hpos⟩ => by
        refine ⟨fun hop l => ⟨tag, ?_⟩, hlimits, fun l t k tag' ht => ?_⟩
        · rw [PerLeg.get_ofFn, composeLeg_none (positions_config (s := s) hop l)]
        · rw [PerLeg.get_ofFn] at ht ⊢
          cases hp : s.positions l with
          | none => rw [composeLeg_none hp] at ht; cases ht
          | some lims =>
            rw [composeLeg_some hp] at ht ⊢
            cases ht
            refine ⟨rfl, lims, positions_limits hp, fun j => ?_⟩
            rw [PerJoint.get_ofFn]
            exact target_bounds (fun j => hlimits l lims j (positions_limits hp)) l j
      ring := fun ⟨h1, h2, h3, h4, h5, h6, h7, h8, h9, h10, h11, hdown⟩ =>
        ⟨h1, h2, h3, h4, h5, h6, h7, h8, h9, h10, h11, fun hd => by
          obtain ⟨-, -, -, -, -, hnone⟩ := hdown hd
          exact nomatch hup.symm.trans hnone⟩ }

end Sys2Proof.Machine
end

section
/-!
The commands of the reflex units, of the supervisor and of the planner link, a stride frame among them, keep every law.
-/

namespace Sys2Proof.Machine

-- One proof after another: side by side they take more threads than the memory limit of the check allows.
set_option Elab.async false

/-! ## The reflex action unit counts (R106 to R116) -/

/-- What a counted sweep return leaves of an entry, and what it may change. -/
theorem Entry.stepped_cases (e : Entry) :
    (e.action = .plant ∧ e.stepped
      = { e with progress := e.progress + 1, reach := e.grownReach, contribution := -(e.grownReach : Int) })
    ∨ (e.action ≠ .plant ∧ e.stepped = { e with progress := e.progress + 1 }) := by
  unfold Entry.stepped
  cases h : e.action with
  | plant => exact .inl ⟨rfl, rfl⟩
  | hold | retract | stop | note | crouch | none => exact .inr ⟨by decide, rfl⟩

theorem kept_setTop_stepped {s : State} {e : Entry} {rest : List Entry} (h : s.arbiter.stack = e :: rest) :
    Kept s (s.setTop e.stepped) := by
  obtain ⟨hplant, heq⟩ | ⟨-, heq⟩ := e.stepped_cases
  · rw [heq]
    refine kept_setTop h rfl rfl rfl fun _ _ => ?_
    have hreach : e.grownReach ≤ 1023 := Nat.min_le_right _ _
    exact ⟨⟨hreach, by dsimp only; omega, by dsimp only; omega⟩, fun _ hne => absurd hplant hne⟩
  · rw [heq]
    exact kept_setTop h rfl rfl rfl fun ⟨hreach, hlo, hhi, _⟩ hidle => ⟨⟨hreach, hlo, hhi⟩, hidle⟩

theorem kept_stepWeight (s : State) (e : Entry) : Kept s (s.stepWeight e) := by
  unfold State.stepWeight
  split
  · exact { reflexUnit := fun ⟨_, hrest⟩ => ⟨Nat.min_le_left _ _, hrest⟩ }
  · exact .refl s

theorem kept_actionFinished (s : State) (e : Entry) : Kept s (s.actionFinished e) := by
  unfold State.actionFinished
  split
  · unfold State.holdFinished
    split
    · exact (kept_askSafe ..).trans (kept_finish ..)
    · exact kept_finish ..
  · exact kept_finish ..
  · unfold State.plantFailed
    split
    · exact ((kept_alert ..).trans (kept_askStop _)).trans (kept_finish ..)
    · exact (kept_askStop _).trans (kept_finish ..)
  · exact (kept_askSafe ..).trans (kept_finish ..)
  all_goals exact .refl s

theorem kept_reflexReturn (s : State) : Kept s s.reflexReturn := by
  unfold State.reflexReturn
  split
  · exact .refl s
  · rename_i e rest hstack
    split
    · have h := (kept_setTop_stepped hstack).trans (kept_stepWeight _ e.stepped)
      dsimp only
      split
      · exact h.trans (kept_actionFinished ..)
      · exact h
    · exact .refl s

theorem kept_reflexIf {s t : State} {due : Bool} (h : s.reflexIf due = .next t) : Kept s t := by
  obtain ⟨hpos, -, heq⟩ | heq := reflexIf_cases s due
  · obtain rfl := Host.Outcome.next.inj (heq.symm.trans h)
    have hdropped : Kept s { s with wires := { s.wires with reflexReturns := s.wires.reflexReturns - 1 } } := {
      ring := fun ⟨h1, h2, h3, h4, h5, h6, h7, h8, h9, h10, h11, hdown⟩ =>
        ⟨h1, h2, h3, h4, h5, h6, h7, h8, h9, h10, h11, fun hup => by
          obtain ⟨-, -, -, hnone, -⟩ := hdown hup
          omega⟩ }
    exact hdropped.trans (kept_reflexReturn _)
  · obtain rfl := Host.Outcome.next.inj (heq.symm.trans h)
    exact .refl s

/-! ## What leaves the wires that no law speaks of -/

section
variable (s : State)

theorem kept_raises (x : List Raise) : Kept s { s with wires := { s.wires with raises := x } } where
theorem kept_drives (x : PerLeg (List Byte)) : Kept s { s with wires := { s.wires with driveStatus := x } } where
theorem kept_stales (x : PerLeg (List Nat)) : Kept s { s with wires := { s.wires with staleReports := x } } where
theorem kept_walks (n : Nat) : Kept s { s with wires := { s.wires with walkRequests := n } } where
theorem kept_stops (n : Nat) : Kept s { s with wires := { s.wires with stopRequests := n } } where
theorem kept_parked (b : Bool) : Kept s { s with wires := { s.wires with allParked := b } } where
theorem kept_safes (x : List SafeCause) : Kept s { s with wires := { s.wires with safeRequests := x } } where

end

/-! ## RAISE and POP (R87, R95) -/

theorem kept_raise {s t : State} {line : Nat} (h : execRaise line s = .next t) : Kept s t := by
  unfold execRaise at h
  split at h
  · cases h
    exact (kept_raises ..).trans (kept_takeRaise ..)
  · cases h; exact .refl s

theorem kept_pop {s t : State} (h : execPop s = .next t) : Kept s t := by
  unfold execPop at h
  split at h
  · cases h; exact kept_popTop ..
  · cases h; exact .refl s
  · cases h; exact .refl s

/-! ## The supervisor's commands (R149 to R151, R155, R159) -/

theorem kept_driveStatus {s t : State} {l : LegId} {first : Bool} (h : execDriveStatus l first s = .next t) : Kept s t := by
  unfold execDriveStatus at h
  split at h
  · cases h; exact .refl s
  · rename_i b rest hslots
    cases h
    refine (kept_drives s (s.wires.driveStatus.set l rest)).trans ?_
    unfold State.takeDriveStatus
    split
    · exact kept_driveFailure ..
    · exact .refl _

theorem kept_staleLimit {s t : State} {l : LegId} {first : Bool} (h : execStaleLimit l first s = .next t) : Kept s t := by
  unfold execStaleLimit at h
  split at h
  · cases h; exact .refl s
  · cases h
    exact (kept_stales ..).trans (kept_driveFailure ..)

theorem kept_walkRequest {s t : State} (h : execWalkRequest s = .next t) : Kept s t := by
  unfold execWalkRequest at h
  split at h
  · cases h; exact .refl s
  · cases h
    refine (kept_walks s (s.wires.walkRequests - 1)).trans ?_
    unfold State.doWalk
    split
    · rename_i hgrant
      exact kept_enterWalking hgrant.1 hgrant.2
    · exact .refl _

theorem kept_stopRequest {s t : State} (h : execStopRequest s = .next t) : Kept s t := by
  unfold execStopRequest at h
  split at h
  · cases h; exact .refl s
  · cases h
    exact (kept_stops ..).trans (kept_doStop _)

theorem kept_allParked {s t : State} (h : execAllParked s = .next t) : Kept s t := by
  unfold execAllParked at h
  split at h
  · dsimp only at h
    split at h
    · rename_i hparked
      cases h
      exact (kept_parked s false).trans
        (kept_standFromStopping (s := { s with wires := { s.wires with allParked := false } }) hparked.1 hparked.2)
    · cases h; exact kept_parked s false
  · cases h; exact .refl s

theorem kept_safeRequest {s t : State} {c : SafeCause} (h : execSafeRequest c s = .next t) : Kept s t := by
  unfold execSafeRequest at h
  split at h
  · cases h
    exact (kept_safes ..).trans (kept_enterSafe ..)
  · cases h; exact .refl s

theorem kept_quiesceExpiry {s t : State} (h : execQuiesceExpiry s = .next t) : Kept s t := by
  unfold execQuiesceExpiry at h
  split at h
  · cases h; exact kept_applyReset _
  · cases h; exact .refl s

/-! ## A stride frame (R23, R24, R33, R43, R68, R165) -/

theorem kept_countStride (s : State) : Kept s s.countStride where
  rate := fun ⟨h1, h2, h3, h4, h5, h6, h7, h8, h9, _, h11⟩ => ⟨h1, h2, h3, h4, h5, h6, h7, h8, h9, Nat.zero_le _, h11⟩

theorem newIntent_rate {s : State} (h : RateLaw s) (f : Stride) :
    s.engine.walk.rateFloor ≤ (s.newIntent f).rateTarget
    ∧ (s.newIntent f).rateTarget ≤ rateCap s.engine.walk s.sup.modes := by
  obtain ⟨hwalk, hfloor, htarget, -⟩ := h
  unfold State.newIntent
  dsimp only
  split
  · exact ⟨hfloor, htarget⟩
  · exact clampN_bounds _ (rateCap_bounds hwalk s.sup.modes).1

theorem kept_intent (s : State) (f : Stride) (hhold : f.holdOff ≤ 255) :
    Kept s { s with engine := { s.engine with intent := s.newIntent f, holdOff := f.holdOff } } where
  rate h := by
    obtain ⟨hfloor, hcap⟩ := newIntent_rate h f
    obtain ⟨hwalk, -, -, hrate, hidle, hamp, -, -, -, hage, -⟩ := h
    obtain ⟨hlo, hhi⟩ := clampI_bounds f.turn (lo := -128) (hi := 127) (by decide)
    exact ⟨hwalk, hfloor, hcap, hrate, hidle, hamp, Nat.min_le_right _ _, hlo, hhi, hage, hhold⟩

theorem kept_takeReferences (s : State) (slope roll : Int) : Kept s (s.takeReferences slope roll) := by
  unfold State.takeReferences
  refine Kept.trans ?_ (kept_abortRelevel _)
  exact {
    balance := fun ⟨h1, h2, hslots, h4, h5, h6, _, _, h9, _, h11, h12, h13⟩ =>
      ⟨h1, h2, hslots, h4, h5, h6, clampI_bounds _ (by decide), clampI_bounds _ (by decide), h9, rfl, h11, h12, h13⟩ }

theorem kept_pendingGait {s : State} {p : Option Nat} (hmoving : p.isSome = true → s.sup.op.isMoving = true)
    (hlegal : ∀ g, p = some g → legal (s.gait g) s.sup.modes = true) :
    Kept s { s with engine := { s.engine with pendingGait := p } } where
  profile h := by
    have hkeep := h
    obtain ⟨-, -, -, -, -, hcur, -⟩ := hkeep
    exact h.of_engine _ hcur (fun g hg => legal_isSome (hlegal g hg)) h.slot_ready
  supervisor := fun ⟨h1, h2, h3, _⟩ => ⟨h1, h2, h3, hmoving⟩
  slots := fun _ _ ⟨h1, h2, h3, h4, _⟩ => ⟨h1, h2, h3, h4, hlegal⟩

theorem kept_gaitNow {s : State} {g : Nat} (hlegal : legal (s.gait g) s.sup.modes = true) :
    Kept s (s.gaitNow g) where
  profile h := by
    have hkeep := h
    obtain ⟨-, -, -, -, -, -, hpend⟩ := hkeep
    exact profileLaw_repark (h.of_engine { s.engine with current := g } (legal_isSome hlegal) hpend h.slot_ready)
  slots := fun _ _ ⟨_, _, _, _, hpend⟩ => slotLaw_repark _ (fun _ => hlegal) hpend
  monitor h := (kept_dropMovedCaptures _ _).monitor h

theorem kept_takeGait {s : State} (hlive : s.sup.op.isLive = true) (g : Nat) : Kept s (s.takeGait g) := by
  have hmoving : s.sup.op ≠ .standing → s.sup.op.isMoving = true := by
    cases hop : s.sup.op <;> simp_all [OpState.isLive, OpState.isMoving]
  unfold State.takeGait
  split
  · split
    · exact .refl s
    · exact kept_pendingGait (fun h => nomatch h) (fun _ h => nomatch h)
  · split
    · rename_i hgait
      split
      · exact kept_gaitNow hgait.2
      · exact kept_pendingGait (fun _ => hmoving ‹_›) fun g' hg => by obtain rfl := Option.some.inj hg; exact hgait.2
    · exact kept_alert ..

theorem kept_requestAfter (s : State) : Kept s s.requestAfter := by
  unfold State.requestAfter
  split
  · exact kept_askWalk _
  · exact kept_askWalk _
  · exact kept_askStop _
  · exact .refl s

theorem takeReferences_sup (s : State) (slope roll : Int) : (s.takeReferences slope roll).sup = s.sup := abortRelevel_sup _

/-- A stride frame's intent and hold-off taken (R23, R43). -/
def intentTaken (s : State) (f : Stride) : State :=
  { s with engine := { s.engine with intent := s.newIntent f, holdOff := f.holdOff } }

/-- A stride frame's references taken, where it has them (R68). -/
def referencesTaken (s : State) (f : Stride) : State := if f.references then s.takeReferences f.slope f.roll else s

/-- A stride frame's gait taken, where it names one (R33). -/
def gaitTaken (s : State) (f : Stride) : State :=
  match f.gait with
  | some g => s.takeGait g
  | none => s

theorem takeStride_eq (s : State) (f : Stride) :
    s.takeStride f = (gaitTaken (referencesTaken (intentTaken s f) f) f).requestAfter := rfl

theorem kept_takeStride {s : State} (hlive : s.sup.op.isLive = true) (f : Stride) (hhold : f.holdOff ≤ 255) :
    Kept s (s.takeStride f) := by
  have hrefs : Kept (intentTaken s f) (referencesTaken (intentTaken s f) f) := by
    unfold referencesTaken
    split
    · exact kept_takeReferences ..
    · exact .refl _
  have hsup : (referencesTaken (intentTaken s f) f).sup = s.sup := by
    unfold referencesTaken
    split
    · exact takeReferences_sup ..
    · rfl
  have hgait : Kept (referencesTaken (intentTaken s f) f) (gaitTaken (referencesTaken (intentTaken s f) f) f) := by
    unfold gaitTaken
    split
    · exact kept_takeGait (by rw [hsup]; exact hlive) _
    · exact .refl _
  exact (((kept_intent s f hhold).trans hrefs).trans hgait).trans (kept_requestAfter _)

theorem live_of_not_ignored {s : State} {stop : Bool} (h : s.strideIgnored stop = none) : s.sup.op.isLive = true := by
  unfold State.strideIgnored at h
  cases hop : s.sup.op <;> simp_all [OpState.isLive]

theorem kept_receiveStride (s : State) (p : List Byte) : Kept s (s.receiveStride p) := by
  unfold State.receiveStride
  dsimp only
  split
  · exact (kept_countStride s).trans (kept_alert ..)
  · exact (kept_countStride s).trans
      (kept_takeStride (s := s.countStride) (live_of_not_ignored ‹_›) _ (Nat.le_of_lt_succ (u8_lt ..)))

theorem kept_dropArrived (s : State) (rest : List (List Byte)) : Kept s (s.dropArrived rest) where

theorem kept_strideFrame {s t : State} (h : execStrideFrame s = .next t) : Kept s t := by
  unfold execStrideFrame at h
  split at h
  · cases h; exact .refl s
  · split at h
    · cases h
      exact (kept_dropArrived ..).trans (kept_receiveStride ..)
    all_goals cases h; exact .refl s

/-! ## The planner link's own commands (R164 to R173) -/

theorem rxByte_lawful {rx : Rx} (h : rx.lawful) (b : Byte) : (rxByte rx b).1.lawful := by
  unfold rxByte
  split
  · split
    · exact .inl rfl
    · trivial
  · split
    · trivial
    · rename_i hb
      exact .inr ⟨Nat.le_of_not_lt hb, by show 1 < b.toNat + 4; omega⟩
  · rename_i len rest
    dsimp only
    split
    · trivial
    · rename_i hmore
      obtain h | ⟨hlen, hshort⟩ := h
      · cases h
      · refine .inr ⟨hlen, ?_⟩
        change rest.length + 1 < len.toNat + 4 at hshort
        change ¬((rest ++ [b]).length + 1 = len.toNat + 4) at hmore
        show (rest ++ [b]).length + 1 < len.toNat + 4
        rw [List.length_append, List.length_singleton] at *
        omega

theorem kept_byteReceived {s t : State} {b : Byte} {stop : Bool} (h : execByteReceived b stop s = .next t) : Kept s t := by
  unfold execByteReceived at h
  split at h
  · cases h
    exact { link := fun ⟨h1, h2, h3, h4, h5, hrx⟩ => ⟨h1, h2, h3, h4, h5, rxByte_lawful hrx b⟩ }
  · cases h
    exact { link := fun ⟨h1, h2, h3, h4, h5, _⟩ => ⟨h1, h2, h3, h4, h5, trivial⟩ }

theorem kept_frameDropped {s t : State} (h : execFrameDropped s = .next t) : Kept s t := by
  unfold execFrameDropped at h
  split at h
  · cases h; exact .refl s
  · split at h
    · cases h; exact kept_dropArrived ..
    · cases h; exact .refl s

theorem kept_receive (s : State) (f : CmdFrame) : Kept s { s with link := s.link.receive f } := by
  unfold Link.receive
  split
  · rename_i hroom
    have hroom' : s.link.inbox.length < 4 := hroom
    exact { link := fun ⟨_, h2, h3, h4, h5, h6⟩ => ⟨by simp; omega, h2, h3, h4, h5, h6⟩ }
  · split
    · rename_i hfree
      have hfree' : s.link.replies.length + s.link.reserved.toNat < 8 := (Link.replyFree_iff _).mp hfree
      exact { link := fun ⟨h1, _, h3, h4, h5, h6⟩ => ⟨h1, by simp; omega, h3, h4, h5, h6⟩ }
    · exact .refl s

theorem kept_setupFrame {s t : State} (h : execSetupFrame s = .next t) : Kept s t := by
  unfold execSetupFrame at h
  split at h
  · cases h; exact .refl s
  · split at h
    · cases h
      exact (kept_dropArrived ..).trans (kept_receive (s.dropArrived _) _)
    all_goals cases h; exact .refl s

theorem kept_setupTake {s t : State} (h : execSetupTake s = .next t) : Kept s t := by
  unfold execSetupTake at h
  split at h
  · rename_i f rest hbusy hinbox
    split at h
    · rename_i hfree
      cases h
      have hfree' : s.link.replies.length + s.link.reserved.toNat < 8 := (Link.replyFree_iff _).mp hfree
      exact { link := fun ⟨h1, _, _, h4, h5, h6⟩ =>
        ⟨by rw [hinbox] at h1; exact (Nat.le_succ _).trans h1, by show s.link.replies.length + 1 ≤ 8; omega, fun _ => rfl,
          h4, h5, h6⟩ }
    · cases h; exact .refl s
  · cases h; exact .refl s

theorem kept_statusImage {s t : State} (h : execStatusImage s = .next t) : Kept s t := by
  unfold execStatusImage at h
  split at h
  · cases h; exact .refl s
  · rename_i hwaits
    have hdropped : Kept s { s with wires := { s.wires with statusReturns := s.wires.statusReturns - 1 } } := {
      ring := fun ⟨h1, h2, h3, h4, h5, h6, h7, h8, h9, h10, h11, hdown⟩ =>
        ⟨h1, h2, h3, h4, h5, h6, h7, h8, h9, h10, h11, fun hup => by
          obtain ⟨-, -, -, -, hnone, -⟩ := hdown hup
          exact absurd hnone hwaits⟩ }
    dsimp only at h
    split at h
    · cases h; exact hdropped
    · split at h
      · cases h
        exact hdropped.trans { link := fun ⟨h1, h2, h3, h4, _, h6⟩ => ⟨h1, h2, h3, h4, .inl rfl, h6⟩ }
      · cases h
        exact hdropped.trans { link := fun ⟨h1, h2, h3, h4, _, h6⟩ => ⟨h1, h2, h3, h4, .inr (Nat.lt_of_not_le ‹_›), h6⟩ }

theorem kept_transmitStart {s t : State} (h : execTransmitStart s = .next t) : Kept s t := by
  unfold execTransmitStart Link.choose at h
  split at h
  · rename_i item k hsending hchoose
    cases h
    split at hchoose
    · rename_i hreplies
      cases hchoose
      exact { link := fun ⟨h1, h2, h3, h4, h5, h6⟩ =>
        ⟨h1, by rw [hreplies] at h2; simp at h2 ⊢; omega, h3, h4, h5, h6⟩ }
    · rename_i halerts
      cases hchoose
      exact {
        alerts := fun ⟨hlen, hdistinct⟩ => by
          rw [halerts] at hlen hdistinct
          exact ⟨(Nat.le_succ _).trans hlen, (List.pairwise_cons.mp hdistinct).2⟩ }
    · cases hchoose; exact {}
    · cases hchoose
  · cases h; exact .refl s

theorem kept_frameSent {s t : State} (h : execFrameSent s = .next t) : Kept s t := by
  unfold execFrameSent at h
  split at h
  · cases h; exact .refl s
  · dsimp only at h
    split at h
    · cases h; exact {}
    all_goals cases h; exact {}

theorem kept_linkReset {s t : State} (h : execLinkReset s = .next t) : Kept s t := by
  unfold execLinkReset at h
  cases h
  refine Kept.trans ?_ (kept_alert ..)
  exact {
    alerts := fun _ => ⟨Nat.zero_le _, .nil⟩
    link := fun ⟨_, _, _, h4, h5, _⟩ => ⟨Nat.zero_le _, Nat.zero_le _, fun h => (nomatch h), h4, h5, trivial⟩ }

end Sys2Proof.Machine
end

section
/-!
The setup commands and the queries keep every law, at the completion of their frame.
-/

namespace Sys2Proof.Machine

-- One proof after another: side by side they take more threads than the memory limit of the check allows.
set_option Elab.async false

/-! ## The completion of a frame (R167, R174) -/

theorem kept_reply (s : State) (f : CmdFrame) (code : ReplyCode) (data : List Byte) : Kept s (s.reply f code data) where
  link := fun ⟨h1, h2, _, h4, h5, h6⟩ => by
    refine ⟨h1, ?_, fun h => (nomatch h), h4, h5, h6⟩
    unfold State.reply
    dsimp only
    split
    · rename_i hreserved
      rw [hreserved] at h2
      simpa using h2
    · exact (Nat.le_add_right _ _).trans h2

theorem kept_refuse (s : State) (f : CmdFrame) (code : ReplyCode) : Kept s (s.refuse f code) := kept_reply ..

theorem kept_completing {s t : State} {c : Command} {body : CmdFrame → State} (h : s.completing c body = .next t)
    (hbody : ∀ f, Kept s (body f)) : Kept s t := by
  obtain ⟨f, -, heq⟩ | heq := completing_cases s c body
  · obtain rfl := Host.Outcome.next.inj (heq.symm.trans h)
    exact hbody f
  · obtain rfl := Host.Outcome.next.inj (heq.symm.trans h)
    exact .refl s

theorem kept_checked {s a : State} (f : CmdFrame) (checks : List (Bool × ReplyCode))
    (ha : firstFailing checks = none → Kept s a) : Kept s (s.checked f checks a) := by
  obtain ⟨code, -, heq⟩ | ⟨hpass, heq⟩ := checked_cases s f checks a
  · rw [heq]; exact kept_refuse ..
  · rw [heq]; exact (ha hpass).trans (kept_reply ..)

/-- The first check passes, and the rest do. -/
theorem firstFailing_cons_none {bad : Bool} {code : ReplyCode} {rest : List (Bool × ReplyCode)} :
    firstFailing ((bad, code) :: rest) = none ↔ bad = false ∧ firstFailing rest = none := by
  cases bad <;> simp [firstFailing]

/-! ## Profile memory (R5, R6, R8) -/

theorem bank_setBank_ne (s : State) {n m : Nat} (b : Bank) (h : m ≠ n) : (s.setBank n b).bank m = s.bank m := by
  simp [State.bank, State.setBank, h.symm]

/-- Replacing a bank gives it what it was given, or, of a number that is none, changes nothing. -/
theorem bank_setBank_cases (s : State) (n : Nat) (b : Bank) : (s.setBank n b).bank n = b ∨ (s.setBank n b).bank n = s.bank n := by
  by_cases h : n < 64
  · exact .inl (by simp [State.bank, State.setBank, h])
  · exact .inr (by simp [State.bank, State.setBank, h])

/-- A bank that is not in use replaced by good content. -/
theorem kept_setBank {s : State} {n : Nat} {b : Bank} (hfixed : bankOut n = false) (hfree : ProfileLaw s → s.inUse n = false)
    (hgood : ProfileLaw s → b.good) : Kept s (s.setBank n b) where
  profile h := by
    have hne : ∀ m, s.inUse m = true → m ≠ n := fun m hm hmn => by
      rw [hmn, hfree h] at hm
      cases hm
    have h01 : n ≠ 0 ∧ n ≠ 1 := by
      simp only [bankOut, Bool.or_eq_false_iff, decide_eq_false_iff_not] at hfixed
      omega
    have hb := hgood h
    obtain ⟨hready, hbanks, h0, h1, hrest⟩ := h
    refine ⟨fun m hm => ?_, fun m => ?_, ?_, ?_, hrest⟩
    · rw [bank_setBank_ne s b (hne m hm)]
      exact hready m hm
    · obtain rfl | hm := eq_or_ne m n
      · obtain heq | heq := bank_setBank_cases s m b
        · rw [heq]; exact hb
        · rw [heq]; exact hbanks m
      · rw [bank_setBank_ne s b hm]
        exact hbanks m
    · rw [bank_setBank_ne s b h01.1.symm]; exact h0
    · rw [bank_setBank_ne s b h01.2.symm]; exact h1
  slots hp _ := fun ⟨h1, hphased, h3⟩ => by
    refine ⟨h1, fun l => ?_, h3⟩
    have hne : (s.engine.slots.get l).bank ≠ n := fun h => by
      have huse := inUse_of_slot s l
      rw [h, hfree hp] at huse
      cases huse
    have hheader : (s.setBank n b).header (s.engine.slots.get l).bank = s.header (s.engine.slots.get l).bank := by
      simp only [State.header, State.profile, bank_setBank_ne s b hne]
    have hslot := hphased l
    unfold SlotPhased at hslot ⊢
    rw [show (s.setBank n b).engine.slots = s.engine.slots from rfl, hheader]
    exact hslot

theorem PerJoint.get_setJoint {α : Type} (v : PerJoint α) (j i : JointId) (x : α) :
    (setJoint v j x).get i = if i = j then x else v.get i := by
  cases i <;> cases j <;> rfl

theorem Bank.promote_good {b : Bank} (h : b.good) : b.promote.good := by
  unfold Bank.promote
  split
  · obtain ⟨hheader, hknots⟩ := h
    refine ⟨hheader _ rfl, fun j => ?_⟩
    cases j
    exacts [hknots .ab _ rfl, hknots .hf _ rfl, hknots .kn _ rfl]
  · exact h

theorem knotsArg_length (a : List Byte) : (knotsArg a).length = 32 := by simp [knotsArg]

/-- A part that passes its check, recorded into good content, leaves it good (R6). -/
theorem Bank.record_good {b : Bank} (h : b.good) {part : Nat} {a : List Byte} (hpart : partGood part a = true) :
    (b.record part a).good := by
  unfold Bank.record
  split
  · obtain ⟨hheader, hknots⟩ := h
    unfold partGood at hpart
    split
    · rename_i hzero
      rw [if_pos hzero] at hpart
      refine Bank.promote_good ⟨fun x hx => ?_, hknots⟩
      rw [hx] at hpart
      exact hpart
    · rename_i hknot
      rw [if_neg hknot] at hpart
      refine Bank.promote_good ⟨hheader, fun j ks hks => ?_⟩
      rw [PerJoint.get_setJoint] at hks
      split at hks
      · obtain rfl := Option.some.inj hks
        refine ⟨knotsArg_length a, fun x hx => ?_⟩
        have hx := List.all_eq_true.mp hpart x hx
        simpa [inRange] using hx
      · exact hknots j ks hks
  · exact h

theorem kept_openBank {s t : State} (h : execOpenBank s = .next t) : Kept s t := by
  refine kept_completing h fun f => kept_checked f _ fun hpass => ?_
  simp only [firstFailing_cons_none] at hpass
  obtain ⟨hout, huse, -⟩ := hpass
  refine kept_setBank hout (fun _ => huse) fun _ => ⟨fun _ hx => (nomatch hx), fun j ks hks => ?_⟩
  rw [PerJoint.get_all] at hks
  cases hks

theorem kept_writePart {s t : State} (h : execWritePart s = .next t) : Kept s t := by
  refine kept_completing h fun f => kept_checked f _ fun hpass => ?_
  simp only [firstFailing_cons_none, Bool.or_eq_false_iff, Bool.not_eq_false'] at hpass
  obtain ⟨⟨hout, -⟩, hfilling, hpart, -⟩ := hpass
  refine kept_setBank hout (fun hp => ?_) fun ⟨_, hgood, _⟩ => Bank.record_good (hgood _) hpart
  cases huse : s.inUse (u8 f.args 0) with
  | false => rfl
  | true =>
    have hready := hp.1 _ huse
    generalize s.bank (u8 f.args 0) = b at hready hfilling
    cases b with
    | empty | filling => cases hready
    | ready => cases hfilling

/-! ## The gait table (R12, R13, R14) -/

theorem gait_of_mem_gaits {s : State} {g : Gait} (h : some g ∈ s.gaits.toList) : ∃ n, s.gait n = some g := by
  obtain ⟨n, hn, hg⟩ := Vector.mem_iff_getElem.mp (Vector.mem_toList_iff.mp h)
  exact ⟨n, by simp [State.gait, hn, hg]⟩

theorem gait_setGait_cases (s : State) (n : Nat) (g : Option Gait) :
    (s.setGait n g).gait n = g ∨ (s.setGait n g).gait n = s.gait n := by
  by_cases h : n < 16
  · exact .inl (s.gait_setGait_same g h)
  · exact .inr (by simp [State.gait, State.setGait, h])

/-- An entry that is neither current nor pending replaced by one of READY banks. -/
theorem kept_setGait {s : State} {n : Nat} {g : Option Gait} (hzero : n ≠ 0) (hheld : s.entryHeld n = false)
    (hready : ∀ x, g = some x → ∀ m ∈ x.members, (s.bank m.bank).isReady = true) : Kept s (s.setGait n g) := by
  have hfree : s.engine.current ≠ n ∧ s.engine.pendingGait ≠ some n := by
    rw [Bool.eq_false_iff, ne_eq, State.entryHeld_iff, not_or] at hheld
    exact hheld
  have hcur : (s.setGait n g).gait s.engine.current = s.gait s.engine.current := s.gait_setGait_ne g hfree.1
  have hpend : ∀ p, s.engine.pendingGait = some p → (s.setGait n g).gait p = s.gait p := fun p hp =>
    s.gait_setGait_ne g fun h => hfree.2 (h ▸ hp)
  exact {
    profile := fun h => by
      have hslots := h.slot_ready
      have hkeep := h
      obtain ⟨huse, hgood, h0, h1, hg0, hc, hp⟩ := hkeep
      refine ⟨fun b hb => ?_, hgood, h0, h1, ?_, ?_, fun p hp' => ?_⟩
      · obtain ⟨l, rfl⟩ | ⟨x, hx, hnames⟩ := inUse_cases hb
        · exact hslots l
        · obtain ⟨i, hi⟩ := gait_of_mem_gaits hx
          have hold : s.gait i = some x → (s.bank b).isReady = true := fun hi' => huse b (inUse_of_gait hi' hnames)
          obtain rfl | hne := eq_or_ne i n
          · obtain heq | heq := gait_setGait_cases s i g
            · obtain ⟨m, hm, hmb⟩ := List.any_eq_true.mp hnames
              have hmb : m.bank = b := beq_iff_eq.mp hmb
              exact hmb ▸ hready x (heq.symm.trans hi) m hm
            · exact hold (heq.symm.trans hi)
          · exact hold ((s.gait_setGait_ne g hne).symm.trans hi)
      · rw [s.gait_setGait_ne g hzero.symm]; exact hg0
      · show ((s.setGait n g).gait s.engine.current).isSome = true
        rw [hcur]; exact hc
      · rw [hpend p hp']; exact hp p hp'
    slots := fun _ _ ⟨hfilled, hphased, hstand, hlegal, hpending⟩ => by
      refine ⟨fun l => ?_, hphased, fun hop => ?_, fun hop => ?_, fun p hp => ?_⟩
      · show SlotFilled (slotMember ((s.setGait n g).gait s.engine.current) s.sup.modes l) _
        rw [hcur]; exact hfilled l
      · have hplay : ∀ l, (s.setGait n g).playing l = s.playing l := fun l => by
          show (slotMember ((s.setGait n g).gait s.engine.current) s.sup.modes l).isSome = _
          rw [hcur]; rfl
        have heq : (s.setGait n g).everyPlayingParked = s.everyPlayingParked := by
          unfold State.everyPlayingParked
          simp only [hplay]
          rfl
        rw [heq]; exact hstand hop
      · show legal ((s.setGait n g).gait s.engine.current) s.sup.modes = true
        rw [hcur]; exact hlegal hop
      · rw [hpend p hp]; exact hpending p hp }

theorem kept_defineGait {s t : State} (h : execDefineGait s = .next t) : Kept s t := by
  refine kept_completing h fun f => kept_checked f _ fun hpass => ?_
  simp only [firstFailing_cons_none, Bool.or_eq_false_iff] at hpass
  obtain ⟨⟨⟨⟨hzero, -⟩, -⟩, -⟩, hheld, hready, -⟩ := hpass
  refine kept_setGait (by simpa using hzero) hheld fun x hx m hm => ?_
  rw [hx] at hready
  have hmem := List.any_eq_false.mp hready m hm
  simpa using hmem

theorem kept_undefineGait {s t : State} (h : execUndefineGait s = .next t) : Kept s t := by
  refine kept_completing h fun f => kept_checked f _ fun hpass => ?_
  simp only [firstFailing_cons_none, Bool.or_eq_false_iff] at hpass
  obtain ⟨⟨hzero, -⟩, hheld, -⟩ := hpass
  exact kept_setGait (by simpa using hzero) hheld fun _ hx => nomatch hx

end Sys2Proof.Machine
end

section
/-!
The settings, the leg modes, the setup commands that change the operating state, and the queries keep every law.
-/

namespace Sys2Proof.Machine

-- One proof after another: side by side they take more threads than the memory limit of the check allows.
set_option Elab.async false

/-! ## Settings (R61, R73, R74, R79, R83, R98, R99, R135, R145, R177 to R179) -/

theorem op_config_of_check {s : State} (h : (s.sup.op != .config) = false) : s.sup.op = .config := by simpa using h

theorem PerJoint.get_mem_toList {α : Type} (v : PerJoint α) (j : JointId) : v.get j ∈ v.toList := by
  cases j <;> simp [PerJoint.toList, PerJoint.get]

theorem Bands.get_set_same (b : Bands) (n : Fin 4) (g : PerJoint Gains) : (b.set n g).get n = g := by
  match n with
  | 0 | 1 | 2 | 3 => rfl

theorem Bands.get_set_ne (b : Bands) {n m : Fin 4} (g : PerJoint Gains) (h : m ≠ n) : (b.set n g).get m = b.get m := by
  match n, m with
  | 0, 0 | 1, 1 | 2, 2 | 3, 3 => exact absurd rfl h
  | 0, 1 | 0, 2 | 0, 3 | 1, 0 | 1, 2 | 1, 3 | 2, 0 | 2, 1 | 2, 3 | 3, 0 | 3, 1 | 3, 2 => rfl

theorem kept_setLimits {s t : State} (h : execSetLimits s = .next t) : Kept s t := by
  refine kept_completing h fun f => ?_
  dsimp only
  split
  · rename_i l hl
    refine kept_checked f _ fun hpass => ?_
    simp only [firstFailing_cons_none, Bool.not_eq_false'] at hpass
    obtain ⟨hop, hgood, -⟩ := hpass
    have hconfig := op_config_of_check hop
    exact {
      drive := fun ⟨hhold, hlimits, _⟩ => by
        refine ⟨hhold, fun m lims j hm => ?_, fun m t k tag hpos => ?_⟩
        · change (s.limits.set l (some (limitsArg f.args))).get m = some lims at hm
          rw [PerLeg.get_set] at hm
          split at hm
          · obtain rfl := Option.some.inj hm
            have hall := List.all_eq_true.mp hgood
            exact hall _ (PerJoint.get_mem_toList ..)
          · exact hlimits m lims j hm
        · obtain ⟨tag', hhold'⟩ := hhold hconfig m
          exact nomatch hhold'.symm.trans hpos }
  · exact kept_checked f _ fun _ => .refl s

theorem kept_setGains {s t : State} (h : execSetGains s = .next t) : Kept s t := by
  refine kept_completing h fun f => ?_
  dsimp only
  split
  · rename_i n hn
    refine kept_checked f _ fun hpass => ?_
    simp only [firstFailing_cons_none, Bool.not_eq_false'] at hpass
    obtain ⟨hgood, -⟩ := hpass
    exact {
      balance := fun ⟨h1, h2, h3, h4, h5, h6, h7, h8, h9, h10, hgains, h12⟩ => by
        refine ⟨h1, h2, h3, h4, h5, h6, h7, h8, h9, h10, fun m j => ?_, h12⟩
        obtain rfl | hne := eq_or_ne m n
        · rw [Bands.get_set_same]
          exact List.all_eq_true.mp hgood _ (PerJoint.get_mem_toList ..)
        · rw [Bands.get_set_ne _ _ hne]
          exact hgains m j }
  · exact kept_refuse ..

theorem kept_setBands {s t : State} (h : execSetBands s = .next t) : Kept s t := by
  refine kept_completing h fun f => kept_checked f _ fun hpass => ?_
  simp only [firstFailing_cons_none, Bool.not_eq_false', Bool.and_eq_true, decide_eq_true_eq] at hpass
  obtain ⟨-, ⟨⟨⟨h1, h2⟩, h3⟩, h4⟩, -⟩ := hpass
  exact {
    balance := fun ⟨b1, b2, b3, b4, b5, b6, b7, b8, _, _, b11, b12, b13⟩ =>
      ⟨b1, b2, b3, b4, b5, b6, b7, b8, ⟨h1, h2, h3, h4⟩, rfl, b11, b12, b13⟩ }

theorem LegContact.staleArm_lawful {c : LegContact} (h : c.lawful) (b : Bool) : LegContact.lawful { c with staleArm := b } := h

theorem kept_staleTest (s : State) (l : LegId) (was : Bool) : Kept s (s.staleTest l was) := by
  rw [staleTest_eq]
  unfold detected
  split
  · exact (kept_setContact _ _ _ fun h => LegContact.staleArm_lawful h _).trans (kept_sendRaise ..)
  · refine kept_setContact _ _ _ fun h => ?_
    split
    · exact LegContact.staleArm_lawful h _
    · exact h

theorem kept_setContactSettings {s : State} {c : ContactSettings} (h : ContactSettings.good c = true) :
    Kept s { s with monitor := { s.monitor with settings := c } } where
  monitor := fun ⟨hlegs, _, hforce⟩ => ⟨hlegs, h, hforce⟩

theorem kept_setContactCommand {s t : State} (h : execSetContact s = .next t) : Kept s t := by
  refine kept_completing h fun f => kept_checked f _ fun hpass => ?_
  simp only [firstFailing_cons_none, Bool.not_eq_false'] at hpass
  obtain ⟨-, hgood, -⟩ := hpass
  exact (kept_setContactSettings hgood).trans (kept_foldl _ (fun _ _ => kept_staleTest ..) _ _)

theorem reflexArg_parameter {src : Source} {a : List Byte} {x : SourceSettings} (h : reflexArg src a = some x) :
    x.parameter ≤ 1023 := by
  unfold reflexArg at h
  split at h
  · split at h
    · rename_i hrange
      obtain rfl := Option.some.inj h
      simp only [Bool.and_eq_true, decide_eq_true_eq] at hrange
      exact hrange.1.2
    · cases h
  · cases h

theorem settings_setSource (s : State) (src src' : Source) (x : SourceSettings) :
    (s.setSource src x).arbiter.settings src' = x ∨ (s.setSource src x).arbiter.settings src' = s.arbiter.settings src' := by
  cases src <;> cases src' <;> simp [State.setSource, Sources.set, Arbiter.settings]

theorem isPending_mask {p m : BitVec 32} {n : Nat} (h : p.getLsbD n = false) : (p &&& m).getLsbD n = false := by
  rw [BitVec.getLsbD_and, h, Bool.false_and]

/-- Fewer lines pending. -/
theorem arbiterLaw_mask {s t : State} (h : ArbiterLaw s) (m : BitVec 32) (hop : t.sup.op = s.sup.op)
    (hstack : t.arbiter.stack = s.arbiter.stack) (hlevel : t.arbiter.level = s.arbiter.level)
    (hpend : t.arbiter.pending = s.arbiter.pending ∨ t.arbiter.pending = s.arbiter.pending &&& m) : ArbiterLaw t := by
  obtain ⟨h1, h2, h3, h4, h5⟩ := h
  unfold ArbiterLaw
  rw [hstack, hlevel, hop]
  refine ⟨h1, h2, h3, fun e he => ?_, fun hrest => ⟨(h5 hrest).1, ?_⟩⟩
  · have hold := h4 e he
    unfold Arbiter.isPending at hold ⊢
    obtain hp | hp := hpend <;> rw [hp]
    · exact hold
    · exact isPending_mask hold
  · obtain hp | hp := hpend <;> rw [hp, (h5 hrest).2]
    exact BitVec.zero_and

theorem kept_setSource {s : State} {src : Source} {x : SourceSettings} (h : x.parameter ≤ 1023) : Kept s (s.setSource src x) where
  arbiter ha := arbiterLaw_mask ha (~~~(sourceLines src)) rfl rfl rfl (by
    unfold State.setSource
    dsimp only
    split
    · exact .inl rfl
    · exact .inr rfl)
  reflexUnit := fun ⟨h1, h2, h3, h4, h5⟩ => ⟨h1, h2, h3, h4, fun src' => by
    obtain heq | heq := settings_setSource s src src' x <;> rw [heq]
    · exact h
    · exact h5 src'⟩

theorem kept_fallCrouch (s : State) (d : Nat) : Kept s { s with arbiter := { s.arbiter with fallCrouch := d } } where
  reflexUnit := fun ⟨h1, h2, h3, h4, h5⟩ => ⟨h1, h2, h3, h4, fun src => by
    have hsrc := h5 src
    cases src <;> exact hsrc⟩

theorem kept_nesting (s : State) (b : Bool) : Kept s { s with arbiter := { s.arbiter with nesting := b } } where
  reflexUnit := fun ⟨h1, h2, h3, h4, h5⟩ => ⟨h1, h2, h3, h4, fun src => by
    have hsrc := h5 src
    cases src <;> exact hsrc⟩

theorem kept_setReflex {s t : State} (h : execSetReflex s = .next t) : Kept s t := by
  refine kept_completing h fun f => ?_
  dsimp only
  split
  · exact kept_checked f _ fun _ => (kept_fallCrouch ..).trans (kept_reexamine _)
  · split
    · split
      · rename_i x hx
        exact kept_checked f _ fun _ => (kept_setSource (reflexArg_parameter hx)).trans (kept_reexamine _)
      · exact kept_refuse ..
    · exact kept_refuse ..

theorem kept_setArbiter {s t : State} (h : execSetArbiter s = .next t) : Kept s t := by
  refine kept_completing h fun f => ?_
  dsimp only
  split
  · exact kept_checked f _ fun _ => (kept_nesting ..).trans (kept_reexamine _)
  · exact kept_refuse ..

theorem kept_clearPending {s t : State} (h : execClearPending s = .next t) : Kept s t := by
  refine kept_completing h fun f => kept_checked f _ fun _ => ?_
  exact {
    arbiter := fun ha => arbiterLaw_mask ha hardLines rfl rfl rfl (.inr rfl)
    reflexUnit := fun ⟨h1, h2, h3, h4, h5⟩ => ⟨h1, h2, h3, h4, fun src => by
      have hsrc := h5 src
      cases src <;> exact hsrc⟩ }

theorem kept_setTilt {s t : State} (h : execSetTilt s = .next t) : Kept s t := by
  refine kept_completing h fun f => kept_checked f _ fun hpass => ?_
  simp only [firstFailing_cons_none, Bool.not_eq_false', Bool.and_eq_true, inRangeN, decide_eq_true_eq] at hpass
  obtain ⟨-, ⟨⟨hw, hl⟩, hle⟩, -⟩ := hpass
  exact {
    balance := fun ⟨h1, h2, h3, _, _, h6, h7, h8, h9, h10, h11, h12, _⟩ =>
      ⟨h1, h2, h3, hw, hl, h6, h7, h8, h9, h10, h11, h12, hle⟩ }

theorem kept_setLegMap {s t : State} (h : execSetLegMap s = .next t) : Kept s t := by
  refine kept_completing h fun f => kept_checked f _ fun hpass => ?_
  simp only [firstFailing_cons_none, Bool.or_eq_false_iff, Bool.not_eq_false', decide_eq_true_eq] at hpass
  obtain ⟨-, ⟨hrange, hnodup⟩, -⟩ := hpass
  exact {
    ring := fun ⟨h1, h2, h3, h4, _, h6⟩ => ⟨h1, h2, h3, h4, ⟨hnodup, fun p hp => by
      have hp := List.all_eq_true.mp hrange p hp
      simpa [inRangeN] using hp⟩, h6⟩ }

theorem kept_setRing {s t : State} (h : execSetRing s = .next t) : Kept s t := by
  refine kept_completing h fun f => kept_checked f _ fun hpass => ?_
  simp only [firstFailing_cons_none, Bool.not_eq_false', Bool.and_eq_true, inRangeN, decide_eq_true_eq] at hpass
  obtain ⟨-, ⟨⟨hperiod, hloss⟩, hstale⟩, -⟩ := hpass
  exact {
    ring := fun ⟨_, _, _, h4, h5, h6, _, _, _, hup, hrest, hdown⟩ =>
      ⟨hperiod, hloss, hstale, h4, h5, h6, fun l => by
        show (PerLeg.all 0).get l ≤ 15
        rw [PerLeg.get_all]; decide, Nat.zero_le _, Nat.zero_le _, fun h => ⟨hloss.1, (hup h).2⟩, hrest, hdown⟩ }

theorem not_moving_of_atRest {op : OpState} (h : op.isAtRest = true) : op.isMoving = false := by
  cases op with
  | config => rfl
  | standing => rfl
  | safe => rfl
  | walking => cases h
  | stopping => cases h

theorem kept_setWalk {s t : State} (h : execSetWalk s = .next t) : Kept s t := by
  refine kept_completing h fun f => kept_checked f _ fun hpass => ?_
  simp only [firstFailing_cons_none, Bool.not_eq_false'] at hpass
  obtain ⟨hrest, hgood, -⟩ := hpass
  exact {
    rate := fun ⟨_, _, _, _, hstill, hr⟩ => by
      have hb := clampN_bounds s.engine.intent.rateTarget (rateCap_bounds hgood s.sup.modes).1
      have hzero := hstill (not_moving_of_atRest hrest)
      exact ⟨hgood, hb.1, hb.2, by show s.engine.rate ≤ _; rw [hzero]; exact Nat.zero_le _, hstill, hr⟩ }

theorem kept_setStatus {s t : State} (h : execSetStatus s = .next t) : Kept s t := by
  refine kept_completing h fun f => kept_checked f _ fun hpass => ?_
  simp only [firstFailing_cons_none, decide_eq_false_iff_not] at hpass
  obtain ⟨hn, -⟩ := hpass
  exact { link := fun ⟨h1, h2, h3, _, _, h6⟩ => ⟨h1, h2, h3, Nat.le_of_not_lt hn, .inl rfl, h6⟩ }

/-! ## Leg modes and operating states (R69, R152, R153, R157, R158) -/

theorem kept_setLegMode {s t : State} (h : execSetLegMode s = .next t) : Kept s t := by
  refine kept_completing h fun f => ?_
  dsimp only
  split
  · refine kept_checked f _ fun hpass => ?_
    simp only [firstFailing_cons_none, Bool.or_eq_false_iff, decide_eq_false_iff_not, Bool.not_eq_false'] at hpass
    obtain ⟨hmoving, ⟨-, hout⟩, hlegal, -⟩ := hpass
    exact kept_changeMode (.inl ⟨hmoving, by omega, hlegal⟩)
  · exact kept_checked f _ fun _ => .refl s

theorem LegContact.forget_lawful {c : LegContact} (h : c.lawful) : c.forget.lawful := by
  obtain ⟨-, -, hrest⟩ := h
  exact ⟨Nat.zero_le _, Nat.zero_le _, hrest⟩

theorem kept_release {s t : State} (h : execRelease s = .next t) : Kept s t := by
  refine kept_completing h fun f => kept_checked f _ fun hpass => ?_
  simp only [firstFailing_cons_none, Bool.or_eq_false_iff, Bool.not_eq_false'] at hpass
  obtain ⟨hop, ⟨-, hlegal⟩, -⟩ := hpass
  have hrest : s.sup.op.isLive = false := by rw [op_config_of_check hop]; rfl
  exact ((kept_mapContacts s _ fun _ _ => LegContact.forget_lawful).trans
    (kept_startStanding (s := s.mapContacts fun _ c => c.forget) hrest hlegal)).trans (kept_multiFaultTest _)

theorem kept_resume {s t : State} (h : execResume s = .next t) : Kept s t := by
  refine kept_completing h fun f => kept_checked f _ fun hpass => ?_
  simp only [firstFailing_cons_none, Bool.or_eq_false_iff, Bool.not_eq_false'] at hpass
  obtain ⟨hop, ⟨⟨-, hlegal⟩, -⟩, -⟩ := hpass
  have hsafe : s.sup.op = .safe := by simpa using hop
  exact kept_startStanding (by rw [hsafe]; rfl) hlegal

theorem kept_relevel {s t : State} (h : execRelevel s = .next t) : Kept s t := by
  refine kept_completing h fun f => kept_checked f _ fun hpass => ?_
  simp only [firstFailing_cons_none] at hpass
  obtain ⟨hop, -⟩ := hpass
  exact {
    balance := fun ⟨h1, h2, h3, h4, h5, h6, h7, h8, h9, h10, h11, _, h13⟩ =>
      ⟨h1, h2, h3, h4, h5, h6, h7, h8, h9, h10, h11, fun k hk => by
        obtain rfl := Option.some.inj hk
        exact ⟨Nat.zero_le _, by simpa using hop⟩, h13⟩ }

/-- A reset is pending, with its count at 0 (R158). -/
theorem lawsKept_resetWaits (s : State) : LawsKept s { s with sup := { s.sup with resetPending := true, quiesce := 0 } } where
  supervisor := fun ⟨h1, h2, _, h4⟩ => ⟨h1, h2, Nat.zero_le _, h4⟩

theorem kept_reset {s t : State} (h : execReset s = .next t) : Kept s t := by
  refine kept_completing h fun f => ?_
  dsimp only
  split
  case h_1 | h_2 | h_3 => exact (kept_reply ..).trans (kept_applyReset _)
  case h_4 hop =>
    obtain ⟨hlaws, hreset⟩ := lawsKept_enterStopping
      (s := { s.reply f .deferred [] with sup := { s.sup with resetPending := true, quiesce := 0 } }) hop
    exact {
      toLawsKept := ((kept_reply s f .deferred []).toLawsKept.trans (lawsKept_resetWaits _)).trans hlaws
      reset := fun _ => hreset }
  case h_5 hop =>
    split
    · exact kept_reply ..
    · exact {
        toLawsKept := (kept_reply s f .deferred []).toLawsKept.trans (lawsKept_resetWaits _)
        reset := fun _ _ => hop }

/-! ## The queries (R11, R13, R181 to R184) and NOT_WELL_FORMED -/

theorem kept_notWellFormed {s t : State} (h : execNotWellFormed s = .next t) : Kept s t := by
  unfold execNotWellFormed at h
  split at h
  · split at h
    · cases h; exact kept_refuse ..
    · cases h; exact .refl s
  · cases h; exact .refl s

theorem kept_readBank {s t : State} (h : execReadBank s = .next t) : Kept s t := by
  refine kept_completing h fun f => ?_
  dsimp only
  split
  · exact kept_refuse ..
  · exact kept_reply ..

theorem kept_readPart {s t : State} (h : execReadPart s = .next t) : Kept s t := by
  refine kept_completing h fun f => ?_
  dsimp only
  split
  · exact kept_refuse ..
  · split
    · exact kept_reply ..
    · exact kept_refuse ..

theorem kept_readGait {s t : State} (h : execReadGait s = .next t) : Kept s t := by
  refine kept_completing h fun f => ?_
  dsimp only
  split
  · exact kept_refuse ..
  · exact kept_reply ..

theorem kept_readTable {s t : State} (h : execReadTable s = .next t) : Kept s t := by
  refine kept_completing h fun f => ?_
  split
  · exact kept_reply ..
  · exact kept_refuse ..

theorem kept_readLeg {s t : State} (h : execReadLeg s = .next t) : Kept s t := by
  refine kept_completing h fun f => ?_
  split
  · exact kept_reply ..
  · exact kept_refuse ..

theorem kept_identify {s t : State} (h : execIdentify s = .next t) : Kept s t :=
  kept_completing h fun _ => kept_reply ..

end Sys2Proof.Machine
end

section
/-!
Power-on meets every law, every command keeps them, and so does every step: the statements about the laws, settled.
-/

namespace Sys2Proof.Machine

-- One proof after another: side by side they take more threads than the memory limit of the check allows.
set_option Elab.async false

/-! ## Power-on (R9, R10, R14, R148) -/

theorem bank_reset (b : Nat) :
    State.reset.bank b = if b = 0 then .ready standProfile else if b = 1 then .ready crouchProfile else .empty := by
  unfold State.bank
  show ((powerOnBanks)[b]?).getD .empty = _
  unfold powerOnBanks
  by_cases h0 : b = 0
  · simp [h0]
  · by_cases h1 : b = 1
    · simp [h1]
    · by_cases h : b < 64
      · simp [h, h0, h1, Ne.symm h0, Ne.symm h1]
      · simp [h, h0, h1]

theorem gait_reset (n : Nat) : State.reset.gait n = if n = 0 then some builtInGait else none := by
  unfold State.gait
  show ((powerOnGaits)[n]?).getD none = _
  unfold powerOnGaits
  by_cases h0 : n = 0
  · simp [h0]
  · by_cases h : n < 16
    · simp [h, h0, Ne.symm h0]
    · simp [h, h0]

theorem knotsGood_replicate {x : Int} (h : -4095 ≤ x ∧ x ≤ 4095) : KnotsGood (List.replicate 32 x) :=
  ⟨List.length_replicate, fun y hy => by rw [List.eq_of_mem_replicate hy]; exact h⟩

theorem profileLaw_reset : ProfileLaw State.reset := by
  have hgait0 : State.reset.gait 0 = some builtInGait := gait_reset 0
  refine ⟨fun b hb => ?_, fun b => ?_, bank_reset 0, bank_reset 1, hgait0,
    by rw [show State.reset.engine.current = 0 from rfl, hgait0]; rfl,
    fun g hg => nomatch hg⟩
  · have hzero : b = 0 := by
      obtain ⟨l, rfl⟩ | ⟨g, hg, hnames⟩ := inUse_cases hb
      · cases l <;> rfl
      · obtain ⟨n, hn⟩ := gait_of_mem_gaits hg
        rw [gait_reset] at hn
        split at hn
        · obtain rfl := Option.some.inj hn
          obtain ⟨m, hm, hmb⟩ := List.any_eq_true.mp hnames
          have hm : m ∈ List.replicate 4 ({ bank := 0, offset := 0 } : Member) := hm
          rw [List.eq_of_mem_replicate hm] at hmb
          exact (beq_iff_eq.mp hmb).symm
        · cases hn
    rw [hzero, bank_reset]
    rfl
  · rw [bank_reset]
    split
    · exact ⟨rfl, fun j => by cases j <;> exact knotsGood_replicate (by decide)⟩
    · split
      · exact ⟨rfl, fun j => by cases j <;> exact knotsGood_replicate (by decide)⟩
      · trivial

theorem slotLaw_reset : SlotLaw State.reset := by
  have hslot : ∀ l, State.reset.engine.slots.get l = restSlot := fun l => PerLeg.get_all ..
  refine ⟨fun l => ?_, fun l => ?_, fun h => (nomatch h), fun h => absurd rfl h, fun _ h => nomatch h⟩
  · rw [hslot, show State.reset.engine.current = 0 from rfl, gait_reset 0]
    exact slotFilled_builtIn ..
  · rw [hslot]
    exact slotPhased_restSlot _

theorem rateLaw_reset : RateLaw State.reset := by
  unfold RateLaw
  decide

theorem monitorLaw_reset : MonitorLaw State.reset := by
  refine ⟨fun l => ?_, rfl, fun l r hr => ?_⟩
  · rw [show State.reset.monitor.legs.get l = resetContact 0 20000 from PerLeg.get_all ..]
    exact resetContact_lawful (Nat.zero_le _) (by decide)
  · rw [show State.reset.wires.legSlots.get l = [] from PerLeg.get_all ..] at hr
    cases hr

theorem balanceLaw_reset : BalanceLaw State.reset := by
  refine ⟨by decide, by decide, fun _ _ h => (nomatch h), by decide, by decide, by decide, by decide, by decide, by decide, rfl,
    fun n j => ?_, fun _ h => (nomatch h), by decide⟩
  match n with
  | 0 | 1 | 2 | 3 => cases j <;> rfl

theorem reflexUnitLaw_reset : ReflexUnitLaw State.reset := by
  refine ⟨by decide, fun l => ?_, fun _ h => (nomatch h), fun _ h => (nomatch h), fun src => ?_⟩
  · rw [show State.reset.unit.reachHold.get l = 0 from PerLeg.get_all ..]
    exact Nat.zero_le _
  · cases src <;> decide

theorem driveLaw_reset : DriveLaw State.reset := by
  have hrecord : ∀ l, (State.reset.shaper.get l).record = .hold 0 := fun l => by cases l <;> rfl
  refine ⟨fun _ l => ⟨0, hrecord l⟩, fun l lims j h => ?_, fun l t k tag h => ?_⟩
  · rw [show State.reset.limits.get l = none from PerLeg.get_all ..] at h
    cases h
  · rw [hrecord] at h
    cases h

theorem ringLaw_reset : RingLaw State.reset := by
  refine ⟨by decide, by decide, by decide, fun _ h => (nomatch h), ⟨by decide, by decide⟩, fun _ h => (nomatch h), fun l => ?_,
    by decide, by decide,
    fun _ => by decide, by decide, fun h => nomatch h⟩
  rw [show State.reset.ring.staleCount.legs.get l = 0 from PerLeg.get_all ..]
  exact Nat.zero_le _

theorem lawful_reset : Lawful State.reset :=
  ⟨⟨Nat.zero_le _, .nil, rfl, fun _ h => (nomatch h), fun _ => ⟨rfl, rfl⟩⟩, ⟨Nat.zero_le _, .nil⟩,
    ⟨Nat.zero_le _, Nat.zero_le _, fun h => (nomatch h), by decide, .inl rfl, trivial⟩, profileLaw_reset, slotLaw_reset,
    rateLaw_reset, monitorLaw_reset, balanceLaw_reset, reflexUnitLaw_reset, driveLaw_reset, ringLaw_reset,
    ⟨by decide, ⟨fun h => (nomatch h), fun h => (nomatch h)⟩, fun h => (nomatch h), Nat.zero_le _, fun h => nomatch h⟩⟩

/-- Settles O10: each law of the power-on values, unit by unit. -/
theorem resetIsLawful : Obligations.ResetIsLawful := lawful_reset

theorem kept_powerOn {s t : State} (h : execPowerOn s = .next t) : Kept s t := by
  obtain rfl := Host.Outcome.next.inj h
  obtain ⟨harbiter, halerts, hlink, hprofile, hslots, hrate, hmonitor, hbalance, hunit, hdrive, hring, hsup⟩ := lawful_reset
  obtain ⟨hcore, hreset⟩ := (supervisorLaw_iff _).mp hsup
  exact {
    arbiter := fun _ => harbiter, alerts := fun _ => halerts, link := fun _ => hlink, profile := fun _ => hprofile
    supervisor := fun _ => hcore, slots := fun _ _ _ => hslots, rate := fun _ => hrate, monitor := fun _ => hmonitor
    balance := fun _ => hbalance, reflexUnit := fun _ => hunit, drive := fun _ => hdrive, ring := fun _ => hring
    reset := fun _ => hreset }

/-! ## The ring's commands -/

theorem kept_ringLoss {s t : State} {ret : Option RingFrame} (h : execRingLoss ret s = .next t) : Kept s t := by
  unfold execRingLoss at h
  split at h
  · split at h
    · cases h; exact kept_issue s
    · cases h; exact .refl s
  · split at h
    · cases h; exact kept_takeReturn ..
    · cases h; exact .refl s

theorem kept_ringRestored {s t : State} {f : RingFrame} (h : execRingRestored f s = .next t) : Kept s t := by
  unfold execRingRestored at h
  split at h
  · cases h; exact kept_takeReturn ..
  · cases h; exact .refl s

/-! ## Every command, and every step -/

/-- Every command keeps every law. -/
theorem kept_exec {c : Instr} {s t : State} (h : exec c s = .next t) : Kept s t := by
  cases c with
  | powerOn => exact kept_powerOn h
  | sweepIssue => cases h; exact kept_issue s
  | ringReturn f => cases h; exact kept_takeReturn ..
  | staleLimit => exact kept_staleLimit h
  | ringLoss => exact kept_ringLoss h
  | ringRestored => exact kept_ringRestored h
  | legRecord | contactChange | slip | overtorque | baselineStale | baselineCapture => exact kept_takeSlotIf h
  | advanceReport => exact kept_advanceReport h
  | bodyRecord | bodyBlind | relevelComplete => exact kept_takeBodyIf h
  | driveStatus => exact kept_driveStatus h
  | advance => exact kept_advance h
  | linkLoss => exact kept_linkLoss h
  | composition => exact kept_composition h
  | reflexStep | holdComplete | retractComplete | plantFailed | crouchComplete => exact kept_reflexIf h
  | raise => exact kept_raise h
  | pop => exact kept_pop h
  | walkRequest => exact kept_walkRequest h
  | stopRequest => exact kept_stopRequest h
  | allParked => exact kept_allParked h
  | safeRequest => exact kept_safeRequest h
  | quiesceExpiry => exact kept_quiesceExpiry h
  | strideFrame => exact kept_strideFrame h
  | frameDropped => exact kept_frameDropped h
  | setupFrame => exact kept_setupFrame h
  | setupTake => exact kept_setupTake h
  | openBank => exact kept_openBank h
  | writePart => exact kept_writePart h
  | defineGait => exact kept_defineGait h
  | undefineGait => exact kept_undefineGait h
  | setLimits => exact kept_setLimits h
  | setGains => exact kept_setGains h
  | setBands => exact kept_setBands h
  | setContact => exact kept_setContactCommand h
  | setReflex => exact kept_setReflex h
  | setArbiter => exact kept_setArbiter h
  | setTilt => exact kept_setTilt h
  | setLegMode => exact kept_setLegMode h
  | setLegMap => exact kept_setLegMap h
  | setRing => exact kept_setRing h
  | setWalk => exact kept_setWalk h
  | setStatus => exact kept_setStatus h
  | release => exact kept_release h
  | relevel => exact kept_relevel h
  | resume => exact kept_resume h
  | reset => exact kept_reset h
  | clearPending => exact kept_clearPending h
  | readBank => exact kept_readBank h
  | readPart => exact kept_readPart h
  | readGait => exact kept_readGait h
  | readTable => exact kept_readTable h
  | readLeg => exact kept_readLeg h
  | identify => exact kept_identify h
  | statusImage => exact kept_statusImage h
  | transmitStart => exact kept_transmitStart h
  | frameSent => exact kept_frameSent h
  | linkReset => exact kept_linkReset h
  | byteReceived => exact kept_byteReceived h
  | notWellFormed => exact kept_notWellFormed h

/-- A step runs a command on the state with the rest of the queue, which every law reads as the state itself; or it idles. -/
theorem step_kept {s t : State} (h : step s = .next t) : ∃ q, Kept { s with pending := q } t := by
  unfold step at h
  split at h
  · cases h; exact ⟨s.pending, .refl _⟩
  · exact ⟨_, kept_exec h⟩

/-- Settles O3: the arbiter's law is one of the laws that every command keeps (`kept_exec`). -/
theorem stepKeepsArbiterLaw : Obligations.StepKeepsArbiterLaw := fun _ _ h hstep =>
  let ⟨_, hkept⟩ := step_kept hstep
  hkept.arbiter h

/-- Settles O4: the alert law and the link law, each kept by itself. -/
theorem stepKeepsLinkLaws : Obligations.StepKeepsLinkLaws := fun _ _ halerts hlink hstep =>
  let ⟨_, hkept⟩ := step_kept hstep
  ⟨hkept.alerts halerts, hkept.link hlink⟩

/-- Settles O5: the law of the profile memory is one of the laws that every command keeps. -/
theorem stepKeepsProfileLaw : Obligations.StepKeepsProfileLaw := fun _ _ h hstep =>
  let ⟨_, hkept⟩ := step_kept hstep
  hkept.profile h

/-- Settles O6: the slots' law rests on READY banks and, of the supervisor's law, on its core. -/
theorem stepKeepsSlotLaw : Obligations.StepKeepsSlotLaw := fun s _ hprofile hsup hslots hstep =>
  let ⟨_, hkept⟩ := step_kept hstep
  hkept.slots hprofile ((supervisorLaw_iff s).mp hsup).1 hslots

/-- Settles O7: the rate law is one of the laws that every command keeps. -/
theorem stepKeepsRateLaw : Obligations.StepKeepsRateLaw := fun _ _ h hstep =>
  let ⟨_, hkept⟩ := step_kept hstep
  hkept.rate h

/-- Settles O8: the laws of the four units, each kept by itself. -/
theorem stepKeepsUnitLaws : Obligations.StepKeepsUnitLaws := by
  refine ⟨fun _ _ h hstep => ?_, fun _ _ h hstep => ?_, fun _ _ h hstep => ?_, fun _ _ h hstep => ?_⟩ <;>
    obtain ⟨_, hkept⟩ := step_kept hstep
  · exact hkept.monitor h
  · exact hkept.balance h
  · exact hkept.reflexUnit h
  · exact hkept.drive h

/-- Settles O9: the supervisor's law in its two parts, the core and the wait of a pending reset. -/
theorem stepKeepsRingAndSupervisorLaws : Obligations.StepKeepsRingAndSupervisorLaws := by
  refine ⟨fun _ _ h hstep => ?_, fun s t h hstep => ?_⟩ <;> obtain ⟨_, hkept⟩ := step_kept hstep
  · exact hkept.ring h
  · obtain ⟨hcore, hreset⟩ := (supervisorLaw_iff s).mp h
    exact (supervisorLaw_iff t).mpr ⟨hkept.supervisor hcore, hkept.reset hreset⟩

/-! ## Every command answers (logs 2, 3, 36) -/

theorem completing_answers (s : State) (c : Command) (body : CmdFrame → State) : ∃ t, s.completing c body = .next t := by
  obtain ⟨f, -, h⟩ | h := completing_cases s c body
  · exact ⟨_, h⟩
  · exact ⟨_, h⟩

theorem takeSlotIf_answers (s : State) (l : LegId) (due : LegSlot → Bool) : ∃ t, s.takeSlotIf l due = .next t := by
  obtain ⟨_, _, -, -, h⟩ | h := takeSlotIf_cases s l due
  · exact ⟨_, h⟩
  · exact ⟨_, h⟩

theorem takeBodyIf_answers (s : State) (due : HandedBody → Bool) : ∃ t, s.takeBodyIf due = .next t := by
  obtain ⟨_, _, -, -, h, -⟩ | h := takeBodyIf_cases s due
  · exact ⟨_, h⟩
  · exact ⟨_, h⟩

theorem reflexIf_answers (s : State) (due : Bool) : ∃ t, s.reflexIf due = .next t := by
  obtain ⟨-, -, h⟩ | h := reflexIf_cases s due
  · exact ⟨_, h⟩
  · exact ⟨_, h⟩

/-- A command whose body is one of next states has a next state. -/
theorem exec_answers (c : Instr) (s : State) : ∃ t, exec c s = .next t := by
  cases c with
  | powerOn | sweepIssue | ringReturn | linkReset => exact ⟨_, rfl⟩
  | legRecord | contactChange | slip | overtorque | baselineStale | baselineCapture => exact takeSlotIf_answers ..
  | bodyRecord | bodyBlind | relevelComplete => exact takeBodyIf_answers ..
  | reflexStep | holdComplete | retractComplete | plantFailed | crouchComplete => exact reflexIf_answers ..
  | openBank | writePart | defineGait | undefineGait | setLimits | setGains | setBands | setContact | setReflex | setArbiter
  | setTilt | setLegMode | setLegMap | setRing | setWalk | setStatus | release | relevel | resume | reset | clearPending
  | readBank | readPart | readGait | readTable | readLeg | identify => exact completing_answers ..
  | staleLimit l first => simp only [exec, execStaleLimit]; split <;> exact ⟨_, rfl⟩
  | driveStatus l first => simp only [exec, execDriveStatus]; split <;> exact ⟨_, rfl⟩
  | ringLoss ret => simp only [exec, execRingLoss]; split <;> split <;> exact ⟨_, rfl⟩
  | ringRestored f => simp only [exec, execRingRestored]; split <;> exact ⟨_, rfl⟩
  | advanceReport => simp only [exec, execAdvanceReport]; split <;> exact ⟨_, rfl⟩
  | advance => simp only [exec, execAdvance]; split <;> exact ⟨_, rfl⟩
  | linkLoss => simp only [exec, execLinkLoss]; split <;> [skip; split] <;> exact ⟨_, rfl⟩
  | composition => simp only [exec, execComposition]; split <;> exact ⟨_, rfl⟩
  | raise line => simp only [exec, execRaise]; split <;> exact ⟨_, rfl⟩
  | pop => simp only [exec, execPop]; split <;> exact ⟨_, rfl⟩
  | walkRequest => simp only [exec, execWalkRequest]; split <;> exact ⟨_, rfl⟩
  | stopRequest => simp only [exec, execStopRequest]; split <;> exact ⟨_, rfl⟩
  | allParked => simp only [exec, execAllParked]; split <;> [split; skip] <;> exact ⟨_, rfl⟩
  | safeRequest cause => simp only [exec, execSafeRequest]; split <;> exact ⟨_, rfl⟩
  | quiesceExpiry => simp only [exec, execQuiesceExpiry]; split <;> exact ⟨_, rfl⟩
  | strideFrame => simp only [exec, execStrideFrame]; split <;> [skip; split] <;> exact ⟨_, rfl⟩
  | frameDropped => simp only [exec, execFrameDropped]; split <;> [skip; split] <;> exact ⟨_, rfl⟩
  | setupFrame => simp only [exec, execSetupFrame]; split <;> [skip; split] <;> exact ⟨_, rfl⟩
  | setupTake => simp only [exec, execSetupTake]; split <;> [split; skip] <;> exact ⟨_, rfl⟩
  | statusImage => simp only [exec, execStatusImage]; split <;> [skip; split] <;> [skip; skip; split] <;> exact ⟨_, rfl⟩
  | transmitStart => simp only [exec, execTransmitStart]; split <;> exact ⟨_, rfl⟩
  | frameSent => simp only [exec, execFrameSent]; split <;> [skip; split] <;> exact ⟨_, rfl⟩
  | byteReceived b stopBit => simp only [exec, execByteReceived]; split <;> exact ⟨_, rfl⟩
  | notWellFormed => simp only [exec, execNotWellFormed]; split <;> [split; skip] <;> exact ⟨_, rfl⟩

/-- Settles O2: every command answers (`exec_answers`), and what keeps the laws keeps the queue (`kept_exec`). -/
theorem everyCommandAnswersNext : Obligations.EveryCommandAnswersNext := fun c s =>
  let ⟨t, h⟩ := exec_answers c s
  ⟨t, h, (kept_exec h).queue⟩

/-- Settles O1: the step's two branches. -/
theorem stepRunsFrontCommand : Obligations.StepRunsFrontCommand := by
  refine ⟨fun c rest s h => ?_, fun s h => ?_⟩
  · unfold step
    rw [h]
  · unfold step
    rw [h]

/-- Settles O51: the alert posted into the emptied queue stands alone in it. -/
theorem linkResetEmptiesTheLink : Obligations.LinkResetEmptiesTheLink := fun _ => rfl

/-- Settles O11: power-on is the reset state with the queue kept; its banks and gaits by `bank_reset` and `gait_reset`. -/
theorem powerOnRestoresEveryTable : Obligations.PowerOnRestoresEveryTable := by
  intro s
  have hleg : ∀ {α : Type} (x : α) (l : LegId), (PerLeg.all x).get l = x := fun _ _ => PerLeg.get_all ..
  refine ⟨_, rfl, rfl, rfl, rfl, rfl, rfl, hleg _, bank_reset 0, bank_reset 1, fun b hb => ?_, gait_reset 0, fun n hn => ?_, rfl,
    hleg _, hleg _, rfl, rfl, fun n j => ?_, rfl, hleg _, rfl, rfl, hleg _, hleg _, rfl, rfl, rfl, rfl, rfl, rfl, rfl, rfl,
    hleg _, rfl, rfl, rfl, rfl, rfl, rfl, rfl, rfl, rfl, rfl, rfl, rfl, rfl, rfl⟩
  · refine (bank_reset b).trans ?_
    rw [if_neg (by omega), if_neg (by omega)]
  · refine (gait_reset n).trans ?_
    rw [if_neg (by omega)]
  · match n with
    | 0 | 1 | 2 | 3 => exact PerJoint.get_all ..

end Sys2Proof.Machine
end

section
/-!
The joint ring (chapter 8): the bytes of a sweep, a lost sweep, a good return and the restoration.
-/

namespace Sys2Proof.Machine

-- One proof after another: side by side they take more threads than the memory limit of the check allows.
set_option Elab.async false

/-! ## The bytes of a field (R186) -/

/-- A signed field's two bytes are the quotient and the remainder of 256. -/
theorem bytesS16_eq (n : Int) : bytesS16 n = be16s n := by
  unfold bytesS16 bytes16 crcBytes be16s
  refine congrArg₂ (fun a b => [a, b]) ?_ ?_ <;> apply BitVec.eq_of_toNat_eq <;>
    simp only [BitVec.toNat_setWidth, BitVec.toNat_ushiftRight, BitVec.toNat_ofInt, Nat.shiftRight_eq_div_pow] <;> omega

/-! ## A sweep (R134, R136, R194) -/

theorem driveSlot_hold (tag : Byte) : driveSlot (.hold tag) = [0, 0, 0, 0, 0, 0, 0, 0, tag, 0, 0, 0, 0, 0, 0, 0] := rfl

theorem driveSlot_position (x : PerJoint Int) (k : Nat) (tag : Byte) :
    driveSlot (.position x k tag)
      = [1] ++ be16s x.ab ++ be16s x.hf ++ be16s x.kn ++ [BitVec.ofNat 8 k, tag, 0, 0, 0, 0, 0, 0, 0] := by
  simp only [driveSlot, bytesS16_eq]
  rfl

theorem driveSlot_length (r : DriveRecord) : (driveSlot r).length = 16 := by
  cases r with
  | hold tag => rfl
  | position x k tag => rfl

theorem outSlot_length (s : State) (p : Nat) : (s.outSlot p).length = 16 := by
  unfold State.outSlot
  split
  · exact driveSlot_length _
  · rfl

theorem buildSweep_slots_length (s : State) (tag : Byte) : (s.buildSweep tag).slots.length = 80 := by
  simp only [State.buildSweep, List.length_append, outSlot_length]

theorem buildSweep_crcGood (s : State) (tag : Byte) : ringCrcGood (s.buildSweep tag) = true := by
  unfold ringCrcGood
  rw [buildSweep_slots_length]
  simp [State.buildSweep]

/-- The slot of a ring position is what the sweep was built to carry there. -/
theorem ringSlot_buildSweep (s : State) (tag : Byte) {p : Nat} (h1 : 1 ≤ p) (h5 : p ≤ 5) :
    ringSlot (s.buildSweep tag) p = s.outSlot p := by
  obtain rfl | rfl | rfl | rfl | rfl : p = 1 ∨ p = 2 ∨ p = 3 ∨ p = 4 ∨ p = 5 := by omega
  all_goals
    simp (disch := simp [outSlot_length]) [ringSlot, State.buildSweep, List.drop_append, outSlot_length,
      List.drop_of_length_le, List.take_of_length_le]

theorem legAt_leg {map : PerNode Nat} (h : MapGood map) (l : LegId) : legAt map (map.legs.get l) = some l := by
  obtain ⟨hnodup, -⟩ := h
  simp only [PerLeg.toList, List.cons_append, List.nil_append, List.nodup_cons, List.mem_cons, List.not_mem_nil, or_false,
    not_or] at hnodup
  obtain ⟨⟨h12, h13, h14, -⟩, ⟨h23, h24, -⟩, ⟨h34, -⟩, -⟩ := hnodup
  cases l <;> simp [legAt, LegId.all, PerLeg.get, h12, h13, h14, h23, h24, h34]

theorem legAt_body {map : PerNode Nat} (h : MapGood map) : legAt map map.body = none := by
  obtain ⟨hnodup, -⟩ := h
  simp only [PerLeg.toList, List.cons_append, List.nil_append, List.nodup_cons, List.mem_cons, List.not_mem_nil, or_false,
    not_or] at hnodup
  obtain ⟨⟨-, -, -, h1⟩, ⟨-, -, h2⟩, ⟨-, h3⟩, h4, -⟩ := hnodup
  simp [legAt, LegId.all, PerLeg.get, h1, h2, h3, h4]

theorem mapGood_position {map : PerNode Nat} (h : MapGood map) (l : LegId) : 1 ≤ map.legs.get l ∧ map.legs.get l ≤ 5 :=
  h.2 _ (List.mem_append_left _ (by cases l <;> simp [PerLeg.toList, PerLeg.get]))

/-- Settles O12: the sweep is the one built from the drive buffer, its slots read position by position. -/
theorem sweepIssueSendsDriveBuffer : Obligations.SweepIssueSendsDriveBuffer := by
  refine ⟨fun s hflight => ⟨s.buildSweep (s.ring.tag + 1), ?_, rfl, buildSweep_slots_length .., buildSweep_crcGood ..,
    fun hmap => ⟨?_, fun l => ?_⟩⟩, driveSlot_hold, driveSlot_position⟩
  · simp only [exec, execSweepIssue, State.issue, hflight, Option.isSome_none, Bool.false_eq_true, if_false]
  · obtain ⟨h1, h5⟩ := hmap.2 s.ring.legMap.body (by simp)
    rw [ringSlot_buildSweep s _ h1 h5]
    simp only [State.outSlot, legAt_body hmap]
  · obtain ⟨h1, h5⟩ := mapGood_position hmap l
    rw [ringSlot_buildSweep s _ h1 h5]
    simp only [State.outSlot, legAt_leg hmap]

/-! ## A lost sweep (R137, R141, R142) -/

theorem takeReturn_other {s : State} {f : RingFrame} (h : ∀ fl, s.ring.inFlight = some fl → f.tag ≠ fl.tag) :
    s.takeReturn f = s := by
  unfold State.takeReturn State.flightOf
  cases hfl : s.ring.inFlight with
  | none => rfl
  | some fl => simp [h fl hfl]

theorem flightOf_some {s : State} {f : RingFrame} {fl : Flight} (hfl : s.ring.inFlight = some fl) (htag : f.tag = fl.tag) :
    s.flightOf f = some fl := by
  simp [State.flightOf, hfl, htag]

theorem takeReturn_bad {s : State} {f : RingFrame} {fl : Flight} (hfl : s.ring.inFlight = some fl) (htag : f.tag = fl.tag)
    (hcrc : ringCrcGood f = false) : s.takeReturn f = s.loseSweep := by
  simp [State.takeReturn, flightOf_some hfl htag, hcrc]

theorem takeReturn_good {s : State} {f : RingFrame} {fl : Flight} (hfl : s.ring.inFlight = some fl) (htag : f.tag = fl.tag)
    (hcrc : ringCrcGood f = true) :
    s.takeReturn f = if s.ring.up then ({ s with ring := { s.ring with inFlight := none } } : State).sweepReturn f fl.map
      else ({ s with ring := { s.ring with inFlight := none } } : State).goodReturn f fl.map := by
  simp [State.takeReturn, flightOf_some hfl htag, hcrc]

/-- A loss below the limit counts. -/
theorem loseSweep_counts {s : State} (hup : s.ring.up = true) (hmore : s.ring.lossCount + 1 < s.ring.lossLimit)
    (hlimit : s.ring.lossLimit ≤ 15) (hrelevel : s.balance.relevel = none) :
    s.loseSweep = { s with ring := { s.ring with inFlight := none, lossCount := s.ring.lossCount + 1 } } := by
  have hnext : s.nextLoss = s.ring.lossCount + 1 := by
    rw [State.nextLoss, satSucc_eq]
    omega
  have hdue : s.lossDue = false := by
    simp only [State.lossDue, hup, hnext, Bool.true_and, decide_eq_false_iff_not]
    omega
  unfold State.loseSweep
  simp only [hup, hdue, hnext, if_true, Bool.false_eq_true, if_false]
  exact abortRelevel_none _ hrelevel

/-- A loss while the ring is DOWN ends the restoration's count. -/
theorem loseSweep_down {s : State} (hup : s.ring.up = false) (hrelevel : s.balance.relevel = none) :
    s.loseSweep = { s with ring := { s.ring with inFlight := none, restoration := 0 } } := by
  have hdue : s.lossDue = false := by simp [State.lossDue, hup]
  unfold State.loseSweep
  simp only [hup, hdue, Bool.false_eq_true, if_false]
  exact abortRelevel_none _ hrelevel

theorem lossDue_of_limit {s : State} (hup : s.ring.up = true) (hlimit : s.ring.lossLimit ≤ min (s.ring.lossCount + 1) 15) :
    s.lossDue = true := by
  simp only [State.lossDue, hup, Bool.true_and, decide_eq_true_eq]
  rwa [State.nextLoss, satSucc_eq]

/-- The wires as the ring goes DOWN by a loss at the limit (R142): what waits of earlier returns goes, and RING-LOSS is raised. -/
def downWires (s : State) : Wires :=
  { s.wires with
    legSlots := ⟨[], [], [], []⟩, bodySlots := [], sweepReturns := [], reflexReturns := 0, statusReturns := 0
    phaseUpdates := []
    raises := s.wires.raises ++ [{ line := 5, value := min (s.ring.lossCount + 1) 15, tag := s.ring.tag }] }

/-- A loss at the limit takes the ring DOWN. -/
theorem loseSweep_limit {s : State} (hup : s.ring.up = true) (hlimit : s.ring.lossLimit ≤ min (s.ring.lossCount + 1) 15)
    (hrelevel : s.balance.relevel = none) :
    s.loseSweep = { s with
      ring := { s.ring with up := false, restoration := 0, inFlight := none, lossCount := min (s.ring.lossCount + 1) 15 }
      wires := downWires s } := by
  have hnext : s.nextLoss = min (s.ring.lossCount + 1) 15 := by rw [State.nextLoss, satSucc_eq]
  have hvalue : ((min (s.ring.lossCount + 1) 15 : Nat) : Int) = min ((s.ring.lossCount : Int) + 1) 15 := by omega
  unfold State.loseSweep
  simp only [hup, lossDue_of_limit hup hlimit, hnext, if_true]
  rw [abortRelevel_none _ (by exact hrelevel)]
  unfold State.ringDown State.sendRaise downWires
  simp only [hvalue]
  rfl

theorem issue_inFlight {s : State} {fl : Flight} (hfl : s.ring.inFlight = some fl) :
    ∃ g, s.issue = { s.loseSweep with ring := { s.loseSweep.ring with
      tag := s.loseSweep.ring.tag + 1, inFlight := some { tag := s.loseSweep.ring.tag + 1, map := s.loseSweep.ring.legMap }
      timerPeriod := s.loseSweep.ring.period, lastSweep := some g } } :=
  ⟨s.loseSweep.buildSweep (s.loseSweep.ring.tag + 1), by simp [State.issue, hfl]⟩

/-! ## While the ring is DOWN (R32, R121, R143) -/

/-- With no sweep return waiting and no phase update, the commands that take them change nothing. -/
theorem exec_of_noReturns {s : State} (h : s.wires.noReturns) {c : Instr}
    (hc : c = .advance ∨ c = .linkLoss ∨ c = .composition ∨ (∃ l, c = .legRecord l) ∨ c = .bodyRecord ∨ c = .reflexStep
      ∨ c = .statusImage) : exec c s = .next s := by
  obtain ⟨hlegs, hbody, hreturns, hreflex, hstatus, hupdates⟩ := h
  obtain rfl | rfl | rfl | ⟨l, rfl⟩ | rfl | rfl | rfl := hc
  · simp only [exec, execAdvance, hreturns]
  · simp only [exec, execLinkLoss, hreturns]
  · simp only [exec, execComposition, hupdates]
  · simp only [exec, execLegRecord, State.takeSlotIf, hlegs]
  · simp only [exec, execBodyRecord, State.takeBodyIf, hbody]
  · simp only [exec, execReflexStep, State.reflexIf, hreflex, if_true]
  · simp only [exec, execStatusImage, hstatus, if_true]

/-- Settles O13: the three outcomes of a lost sweep (`loseSweep_counts`, `loseSweep_down`, `loseSweep_limit`), by the timer or by a
bad CRC; and with no return waiting nothing counts. -/
theorem lostSweepCountsOrTakesRingDown : Obligations.LostSweepCountsOrTakesRingDown := by
  refine ⟨fun s f => ⟨fun hother => ?_, fun fl hfl hrelevel => ⟨fun hup hmore hlimit => ?_, fun hup => ?_⟩⟩,
    fun s fl hfl hup hrelevel hlimit => ?_, fun s c hlaw hup hc => ?_⟩
  · simp only [exec, execRingReturn, takeReturn_other hother]
  · have hlost := loseSweep_counts hup hmore hlimit hrelevel
    refine ⟨fun htag hcrc => ?_, ?_⟩
    · simp only [exec, execRingReturn, takeReturn_bad hfl htag hcrc, hlost]
    · obtain ⟨g, hg⟩ := issue_inFlight hfl
      exact ⟨g, by simp only [exec, execSweepIssue, hg, hlost]⟩
  · have hlost := loseSweep_down hup hrelevel
    refine ⟨fun htag hcrc => ?_, ?_⟩
    · simp only [exec, execRingReturn, takeReturn_bad hfl htag hcrc, hlost]
    · obtain ⟨g, hg⟩ := issue_inFlight hfl
      exact ⟨g, by simp only [exec, execSweepIssue, hg, hlost]⟩
  · have hlost := loseSweep_limit hup hlimit hrelevel
    have hdue := lossDue_of_limit hup hlimit
    refine ⟨?_, fun f htag hcrc => ?_⟩
    · obtain ⟨g, hg⟩ := issue_inFlight hfl
      refine ⟨g, ?_, ?_⟩
      · simp only [exec, execRingLoss, hfl, hdue, Option.isSome_some, Bool.and_self, if_true, hg, hlost]
        rfl
      · simp only [exec, execRingLoss, execSweepIssue, hfl, hdue, Option.isSome_some, Bool.and_self, if_true]
    · refine ⟨?_, ?_⟩
      · simp only [exec, execRingLoss, flightOf_some hfl htag, hcrc, hdue, Option.isSome_some, Bool.not_false, Bool.and_self,
          if_true, takeReturn_bad hfl htag hcrc, hlost]
        rfl
      · simp only [exec, execRingLoss, execRingReturn, flightOf_some hfl htag, hcrc, hdue, Option.isSome_some, Bool.not_false,
          Bool.and_self, if_true]
  · obtain ⟨-, -, -, -, -, -, -, -, -, -, -, hdown⟩ := hlaw
    exact exec_of_noReturns (hdown hup) hc

/-! ## A good return (R138 to R140, R144) -/

theorem legFresh_iff (f : RingFrame) (map : PerNode Nat) (l : LegId) :
    legFresh f map l = true ↔ (ringSlot f (map.legs.get l)).getD 0 0 = f.tag := by
  unfold legFresh slotFresh
  exact beq_iff_eq

theorem staleAfter_stale (n : Nat) : staleAfter n false = min (n + 1) 15 := satSucc_eq n 15

section
variable {s u : State} (f : RingFrame) (map : PerNode Nat)

/-- What a sweep return hands on for a leg whose slot is fresh (R138 to R140). -/
theorem sweepReturn_freshLeg {l : LegId} (h : legFresh f map l = true) :
    let t := s.sweepReturn f map
    let slot := ringSlot f (map.legs.get l)
    t.ring.staleCount.legs.get l = 0 ∧ t.ring.lastFresh.get l = true
    ∧ t.shaper.get l = { s.shaper.get l with measured := readAngles slot }
    ∧ t.wires.legSlots.get l = s.wires.legSlots.get l ++ [.fresh (readLegRec slot)]
    ∧ t.wires.driveStatus.get l = s.wires.driveStatus.get l ++ [slot.getD 1 0]
    ∧ t.wires.staleReports.get l = s.wires.staleReports.get l := by
  simp [State.sweepReturn, State.judgeSlots, State.handInward, State.takeAngles, State.staleReached, handedSlot, legSlotOf,
    staleAfter, readDriveStatus, h]

/-- What a sweep return hands on for a leg whose slot is stale. -/
theorem sweepReturn_staleLeg {l : LegId} (h : legFresh f map l = false) :
    let t := s.sweepReturn f map
    t.ring.staleCount.legs.get l = min (s.ring.staleCount.legs.get l + 1) 15 ∧ t.ring.lastFresh.get l = false
    ∧ t.shaper.get l = s.shaper.get l
    ∧ t.wires.legSlots.get l = s.wires.legSlots.get l ++ [.stale]
    ∧ t.wires.driveStatus.get l = s.wires.driveStatus.get l
    ∧ (s.ring.staleCount.legs.get l + 1 = s.ring.staleLimit → s.ring.staleLimit ≤ 15 →
        t.wires.staleReports.get l = s.wires.staleReports.get l ++ [s.ring.staleLimit])
    ∧ (s.ring.staleCount.legs.get l + 1 ≠ s.ring.staleLimit → s.ring.staleLimit ≤ 15 →
        s.ring.staleCount.legs.get l ≤ 15 → t.wires.staleReports.get l = s.wires.staleReports.get l) := by
  have hreached : s.staleReached f map l = true ↔
      s.ring.staleCount.legs.get l < s.ring.staleLimit ∧ min (s.ring.staleCount.legs.get l + 1) 15 = s.ring.staleLimit := by
    simp [State.staleReached, h, satSucc_eq]
  refine ⟨?_, ?_, ?_, ?_, ?_, fun heq hle => ?_, fun hne hle hcount => ?_⟩
  · simp [State.sweepReturn, State.judgeSlots, h, staleAfter_stale]
  · simp [State.sweepReturn, State.judgeSlots, h]
  · simp [State.sweepReturn, State.takeAngles, h]
  · simp [State.sweepReturn, State.handInward, handedSlot, h]
  · simp [State.sweepReturn, State.handInward, h]
  · have hdue := hreached.mpr ⟨by omega, by omega⟩
    simp [State.sweepReturn, State.handInward, hdue]
  · have hidle : s.staleReached f map l = false := Bool.eq_false_iff.mpr fun hdue => by
      obtain ⟨hlt, hmin⟩ := hreached.mp hdue
      omega
    simp [State.sweepReturn, State.handInward, hidle]

theorem sweepReturn_freshBody (h : (ringSlot f map.body).getD 0 0 = f.tag) :
    (s.sweepReturn f map).ring.staleCount.body = 0
    ∧ (s.sweepReturn f map).wires.bodySlots
      = s.wires.bodySlots ++ [{ slot := .fresh (readBodyRec (ringSlot f map.body)), staleLimit := s.ring.staleLimit }] := by
  have hfresh : slotFresh (bodySlotOf f map) f.tag = true := beq_iff_eq.mpr h
  simp only [State.sweepReturn, State.judgeSlots, State.handInward, handedBody, hfresh, staleAfter, if_true]
  exact ⟨trivial, rfl⟩

theorem sweepReturn_staleBody (h : (ringSlot f map.body).getD 0 0 ≠ f.tag) :
    (s.sweepReturn f map).ring.staleCount.body = min (s.ring.staleCount.body + 1) 15
    ∧ (s.sweepReturn f map).wires.bodySlots
      = s.wires.bodySlots ++ [{ slot := .stale, staleLimit := s.ring.staleLimit }] := by
  have hstale : slotFresh (bodySlotOf f map) f.tag = false := beq_eq_false_iff_ne.mpr h
  simp only [State.sweepReturn, State.judgeSlots, State.handInward, handedBody, hstale, staleAfter_stale, Bool.false_eq_true,
    if_false]
  exact ⟨trivial, trivial⟩

theorem quiesced_eq (p : Supervisor) :
    p.quiesced = { p with quiesce := if p.resetPending then min (p.quiesce + 1) 4000 else p.quiesce } := by
  unfold Supervisor.quiesced
  split
  · rw [satSucc_eq]
    rfl
  · rfl

/-- A sweep return is one, from a state `s` whose flight, loss count and course of the ring the return has set, in `u`. -/
theorem sweepReturned_sweepReturn (hring : u.ring = { s.ring with
      inFlight := none, lossCount := u.ring.lossCount, up := u.ring.up, restoration := u.ring.restoration })
    (hu : u = { s with ring := u.ring, link := u.link }) : SweepReturned s (u.sweepReturn f map) f map := by
  generalize u.ring = r at hring hu
  generalize u.link = k at hu
  subst hu
  rw [hring]
  refine ⟨fun l => ⟨fun h => ?_, fun h => ?_⟩, fun h => ?_, fun h => ?_, rfl, rfl, rfl, ?_, ?_⟩
  · exact sweepReturn_freshLeg f map ((legFresh_iff f map l).mpr h)
  · exact sweepReturn_staleLeg f map (Bool.eq_false_iff.mpr fun hf => h ((legFresh_iff f map l).mp hf))
  · exact sweepReturn_freshBody f map h
  · exact sweepReturn_staleBody f map h
  · exact congrArg Supervisor.quiesce (quiesced_eq s.sup)
  · have hsup := quiesced_eq s.sup
    simp only [State.sweepReturn, hsup]
    rfl

end

/-- Settles O14: a good return is a sweep return of the state without its flight, and the eighth one while DOWN one of the state that is
UP again. -/
theorem goodReturnIsHandedInward : Obligations.GoodReturnIsHandedInward := by
  refine ⟨fun s f fl hfl htag hcrc hup => ⟨_, ?_, sweepReturned_sweepReturn (u := { s with ring := { s.ring with inFlight := none } })
    f fl.map rfl rfl, hup, rfl, rfl⟩, fun s f fl hfl htag hcrc hup => ⟨fun hmore => ?_, fun hlast => ?_⟩⟩
  · simp only [exec, execRingReturn, takeReturn_good hfl htag hcrc, hup, if_true]
  · have hne : s.ring.restoration + 1 ≠ Config.restoreCount := by
      show s.ring.restoration + 1 ≠ 8
      omega
    simp only [exec, execRingReturn, takeReturn_good hfl htag hcrc, hup, Bool.false_eq_true, if_false, State.goodReturn, hne]
  · have heq : s.ring.restoration + 1 = Config.restoreCount := by rw [hlast]; rfl
    have hret : exec (.ringReturn f) s = .next
        (({ s with ring := { s.ring with inFlight := none } } : State).ringUp.sweepReturn f fl.map) := by
      simp only [exec, execRingReturn, takeReturn_good hfl htag hcrc, hup, Bool.false_eq_true, if_false, State.goodReturn, heq,
        if_true]
    have hsame : exec (.ringRestored f) s = exec (.ringReturn f) s := by
      simp only [exec, execRingRestored, execRingReturn, flightOf_some hfl htag, hcrc, hup, heq, Option.isSome_some,
        Bool.not_false, Bool.and_self, beq_self_eq_true, if_true]
    exact ⟨hsame, _, hsame.trans hret, sweepReturned_sweepReturn
      (u := ({ s with ring := { s.ring with inFlight := none } } : State).ringUp) f fl.map rfl rfl, rfl, rfl, rfl⟩

end Sys2Proof.Machine
end

section
/-!
The phase engine (chapter 2): a sweep return without an advance, an advance, and an advance at the wrap with a gait pending.
-/

namespace Sys2Proof.Machine

-- One proof after another: side by side they take more threads than the memory limit of the check allows.
set_option Elab.async false

/-! ## When a sweep return brings an advance (R28) -/

theorem advances_of_moving {s : State} (hop : s.sup.op = .walking ∨ s.sup.op = .stopping)
    (htop : ∀ e ∈ s.arbiter.stack.head?, e.action = .stop) : s.advances = true := by
  have hfrozen : s.frozen = false := by
    unfold State.frozen Arbiter.top
    cases h : s.arbiter.stack.head? with
    | none => rfl
    | some e =>
      have haction := htop e h
      simp [haction, Action.freezes]
  obtain hop | hop := hop <;> simp [State.advances, hop, hfrozen, OpState.isMoving]

theorem not_advances {s : State} (h : s.sup.op = .config ∨ s.sup.op = .standing ∨ s.sup.op = .safe
    ∨ ∃ e below, s.arbiter.stack = e :: below
        ∧ (e.action = .hold ∨ e.action = .retract ∨ e.action = .plant ∨ e.action = .crouch)) : s.advances = false := by
  obtain hop | hop | hop | ⟨e, below, hstack, haction⟩ := h
  · simp [State.advances, hop, OpState.isMoving]
  · simp [State.advances, hop, OpState.isMoving]
  · simp [State.advances, hop, OpState.isMoving]
  · have hfrozen : s.frozen = true := by
      simp only [State.frozen, Arbiter.top, hstack, List.head?_cons, Option.any_some]
      obtain h | h | h | h := haction <;> rw [h] <;> rfl
    simp [State.advances, hfrozen]

/-! ## What an advance leaves of the rest of the state -/

/-- An advance changes the engine's rate, amplitude, master, slots and gait, and leaves the rest. -/
theorem moved_frame (s : State) : ∃ rate amp master slots current gait,
    moved s = { s with engine := { s.engine with
      rate := rate, amp := amp, master := master, slots := slots, current := current, pendingGait := gait } } := by
  unfold moved
  obtain ⟨g, -, -, heq⟩ | ⟨-, heq⟩ := wrapped_cases s <;> rw [heq] <;> exact ⟨_, _, _, _, _, _, rfl⟩

theorem reportParked_eq (s : State) :
    s.reportParked = { s with wires := { s.wires with
      allParked := s.wires.allParked || (s.sup.op == .stopping && s.everyPlayingParked) } } := by
  have hdue : (s.sup.op == .stopping && s.everyPlayingParked) = decide (s.sup.op = .stopping ∧ s.everyPlayingParked = true) := by
    rw [Bool.eq_iff_iff]
    simp
  unfold State.reportParked
  rw [hdue]
  split
  · rename_i h
    rw [decide_eq_true h, Bool.or_true]
  · rename_i h
    rw [decide_eq_false h, Bool.or_false]

/-- What the engine does after its advance: the intent age and the hold-off count, and LINK-LOSS may be raised (R41 to R43). -/
theorem counted_eq (s : State) : ∃ armed draws raises, counted s = { advanced s with
    engine := { (advanced s).engine with
      intentAge := min ((advanced s).engine.intentAge + 1) 65535, holdOff := (advanced s).engine.holdOff - 1
      linkLossArmed := armed }
    freeDraws := draws
    wires := { (advanced s).wires with raises := raises } } := by
  have hcount : (advanced s).countReturn = { advanced s with engine := { (advanced s).engine with
      intentAge := min ((advanced s).engine.intentAge + 1) 65535, holdOff := (advanced s).engine.holdOff - 1 } } := by
    rw [State.countReturn, satSucc_eq]
  unfold counted
  rw [hcount]
  split <;> exact ⟨_, _, _, rfl⟩

theorem exec_advance_of {s : State} {tag : Byte} {rest : List Byte} (h : s.wires.sweepReturns = tag :: rest) :
    exec .advance s = .next ((s.dropReturn rest).engineReturn tag) := by
  simp only [exec, execAdvance, h]

/-- An ADVANCE that brings an advance. -/
theorem exec_advance_moving {s : State} {tag : Byte} {rest : List Byte} (h : s.wires.sweepReturns = tag :: rest)
    (hadv : s.advances = true) :
    let m := moved (s.dropReturn rest)
    ∃ armed draws raises, exec .advance s = .next { m with
      engine := { m.engine with
        intentAge := min (m.engine.intentAge + 1) 65535, holdOff := m.engine.holdOff - 1, linkLossArmed := armed }
      freeDraws := draws
      wires := { m.wires with
        phaseUpdates := m.wires.phaseUpdates ++ [tag], reports := m.wires.reports ++ [advanceReports (s.dropReturn rest)]
        raises := raises, allParked := m.wires.allParked || (m.sup.op == .stopping && m.everyPlayingParked) } } := by
  intro m
  have hadvanced : advanced (s.dropReturn rest) = _ := (if_pos hadv).trans ((doAdvance_eq _).trans (reportParked_eq _))
  obtain ⟨armed, draws, raises, hcounted⟩ := counted_eq (s.dropReturn rest)
  rw [exec_advance_of h, engineReturn_eq, hcounted, hadvanced]
  exact ⟨armed, draws, raises, rfl⟩

/-! ## No advance, and LINK-LOSS (R42) -/

theorem linkLossDue_iff (s : State) :
    s.countReturn.linkLossDue = true ↔ s.sup.op = .walking ∧ s.engine.walk.intentTimeout < min (s.engine.intentAge + 1) 65535
      ∧ s.engine.linkLossArmed = true := by
  simp only [State.linkLossDue, State.countReturn, satSucc_eq, Bool.and_eq_true, beq_iff_eq, decide_eq_true_eq, and_assoc]

/-- Settles O26: without an advance only the counts move; and where LINK-LOSS is due it is so after the advance too, which leaves the
age, the timeout and the arm. -/
theorem sweepReturnWithoutAdvance : Obligations.SweepReturnWithoutAdvance := by
  refine ⟨fun s tag rest h hstill hquiet => ?_, fun s tag rest h hop hage harm => ?_⟩
  · have hadvanced : advanced (s.dropReturn rest) = s.dropReturn rest := if_neg (by
      rw [show (s.dropReturn rest).advances = s.advances from rfl, not_advances hstill]
      decide)
    have hdue : ¬(s.dropReturn rest).countReturn.linkLossDue = true := by
      rw [linkLossDue_iff]
      rintro ⟨hop, hage, harm⟩
      obtain hne | hle | hoff := hquiet
      · exact hne hop
      · exact absurd hage (Nat.not_lt.mpr hle)
      · exact absurd (hoff.symm.trans harm) (by decide)
    rw [exec_advance_of h, engineReturn_eq]
    unfold counted
    rw [hadvanced, if_neg hdue, State.countReturn, satSucc_eq]
    rfl
  · have hdue : s.countReturn.linkLossDue = true := (linkLossDue_iff s).mpr ⟨hop, hage, harm⟩
    have hsame : exec .linkLoss s = exec .advance s := by
      simp only [exec, execLinkLoss, execAdvance, h, hdue, if_true]
    have hframe : ∃ rate amp master slots current gait reports parked, advanced (s.dropReturn rest) = { s with
        engine := { s.engine with
          rate := rate, amp := amp, master := master, slots := slots, current := current, pendingGait := gait }
        wires := { s.wires with sweepReturns := rest, reports := reports, allParked := parked } } := by
      unfold advanced
      split
      · obtain ⟨rate, amp, master, slots, current, gait, hmoved⟩ := moved_frame (s.dropReturn rest)
        rw [doAdvance_eq, reportParked_eq, hmoved]
        exact ⟨_, _, _, _, _, _, _, _, rfl⟩
      · exact ⟨_, _, _, _, _, _, _, _, rfl⟩
    obtain ⟨rate, amp, master, slots, current, gait, reports, parked, hadvanced⟩ := hframe
    have hstill : (advanced (s.dropReturn rest)).countReturn.linkLossDue = true := by
      rw [hadvanced]
      exact hdue
    rw [hsame, exec_advance_of h, engineReturn_eq]
    unfold counted
    rw [if_pos hstill, hadvanced]
    exact ⟨_, _, rfl, rfl, rfl, satSucc_eq _ _, rfl, rfl, rfl, rfl⟩

/-! ## An advance (R26 to R31, R37, R39) -/

theorem steppedRate_eq {s : State} {r : Nat} (h : SteppedRate s r) : s.steppedRate = r := by
  unfold SteppedRate at h
  unfold State.steppedRate
  rw [h, stepToward_eq]

theorem crosses_iff (a b : Phase) (r : Nat) : crosses a b r = true ↔ 1 ≤ fwd a b ∧ fwd a b ≤ r := by
  simp [crosses]

section
variable (h : Header) (sl : Slot) (mOld mNew : Phase) (r : Nat) (w : Bool)

/-- An unparked slot moves with the master; in STOPPING it parks where it crosses its touchdown phase, or at a wrap into a bank with
an empty swing window (R30, R37). -/
theorem playSlot_unparked (op : OpState) (hp : sl.parked = none) :
    playSlot op h sl mOld mNew r w
      = if op = .stopping ∧ ((1 ≤ fwd sl.phase h.touchdown ∧ fwd sl.phase h.touchdown ≤ r) ∨ (w = true ∧ h.emptyWindow = true)) then
          { sl with phase := mNew + sl.offset, swing := false, parked := some (mNew + sl.offset) }
        else { sl with phase := mNew + sl.offset, swing := h.inSwing (mNew + sl.offset) } := by
  unfold playSlot
  simp only [hp, crosses_iff]

/-- A parked slot stays; in WALKING it rejoins where its computed phase crosses its parked phase (R39). -/
theorem playSlot_parked (op : OpState) {p : Phase} (hp : sl.parked = some p) :
    playSlot op h sl mOld mNew r w
      = if op = .walking ∧ 1 ≤ fwd (mOld + sl.offset) p ∧ fwd (mOld + sl.offset) p ≤ r then
          { sl with phase := mNew + sl.offset, swing := h.inSwing (mNew + sl.offset), parked := none }
        else sl := by
  unfold playSlot
  simp only [hp, crosses_iff]

end

/-- The state after an advance's stages 1 to 5 where no gait is applied. -/
theorem moved_of_no_gait {s : State} {r : Nat} (hr : s.steppedRate = r)
    (hgait : s.engine.pendingGait = none ∨ s.engine.master.toNat + r < 65536) :
    wrapped s = (rated s, false) ∧ moved s = played (rated s) r false := by
  have hwrapped : wrapped s = (rated s, false) := by
    obtain ⟨g, hg, hwrap, -⟩ | ⟨-, heq⟩ := wrapped_cases s
    · obtain hnone | hlt := hgait
      · exact nomatch hnone.symm.trans hg
      · omega
    · exact heq
  exact ⟨hwrapped, by rw [moved, hwrapped, hr]⟩

theorem played_slots (s : State) (r : Nat) (w : Bool) (l : LegId) :
    (played s r w).engine.slots.get l = s.playedSlot s.engine.master r w l := PerLeg.get_ofFn ..

theorem playedSlot_playing {s : State} {l : LegId} (h : s.playing l = true) (mOld : Phase) (r : Nat) (w : Bool) :
    s.playedSlot mOld r w l = playSlot s.sup.op (s.header (s.engine.slots.get l).bank) (s.engine.slots.get l) mOld
      (mOld + BitVec.ofNat 16 r) r w := by
  simp [State.playedSlot, h]

theorem playedSlot_rest {s : State} {l : LegId} (h : s.playing l = false) (mOld : Phase) (r : Nat) (w : Bool) :
    s.playedSlot mOld r w l = s.engine.slots.get l := by
  simp [State.playedSlot, h]

theorem reportFor_rest {s : State} {l : LegId} (h : s.playing l = false) (before : PerLeg Slot) (r : Nat) (w : Bool) :
    s.reportFor before r w l = none := by
  simp [State.reportFor, h]

theorem reportFor_playing {s : State} {l : LegId} (h : s.playing l = true) (before : PerLeg Slot) (r : Nat) (w : Bool) :
    s.reportFor before r w l
      = some (legReport (s.header (s.engine.slots.get l).bank) (before.get l) (s.engine.slots.get l) r w) := by
  simp [State.reportFor, h]

/-- The report of a slot that keeps its member. -/
theorem legReport_kept (h : Header) {before after : Slot} (hbank : after.bank = before.bank)
    (hoffset : after.offset = before.offset) (r : Nat) :
    legReport h before after r false = {
      liftoff := !before.swing && after.swing
      touchdown := before.swing && !after.swing && !decide (fwd h.liftoff after.phase < fwd h.liftoff h.touchdown)
      parked := before.parked.isNone && after.parked.isSome
      oldPhase := before.phase, newPhase := after.phase, rate := r
      crossing := before.parked.isNone, kept := true, swingAfter := after.swing
      bank := before.bank, offset := before.offset } := by
  simp only [legReport, hbank, hoffset, beq_self_eq_true, Bool.and_self, Bool.and_true, Bool.not_false]
  rfl

/-- Settles O27: the state after an advance is that of its stages on the rated state, its slots those of `playSlot`. -/
theorem advanceMovesTheStride : Obligations.AdvanceMovesTheStride := by
  intro s tag rest r h hop htop hstep hgait
  have hr : (s.dropReturn rest).steppedRate = r := steppedRate_eq hstep
  obtain ⟨hwrapped, hmoved⟩ := moved_of_no_gait (s := s.dropReturn rest) hr hgait
  obtain ⟨armed, draws, raises, hexec⟩ := exec_advance_moving h (advances_of_moving hop htop)
  have hslots : ∀ l, (played (rated (s.dropReturn rest)) r false).engine.slots.get l
      = (rated (s.dropReturn rest)).playedSlot s.engine.master r false l := played_slots _ r false
  have hplay : ∀ l, s.playing l = true → (played (rated (s.dropReturn rest)) r false).engine.slots.get l
      = playSlot s.sup.op (s.header (s.engine.slots.get l).bank) (s.engine.slots.get l) s.engine.master
        (s.engine.master + BitVec.ofNat 16 r) r false := fun l hl =>
    (hslots l).trans (playedSlot_playing (s := rated (s.dropReturn rest)) hl ..)
  refine ⟨_, hexec, ?_⟩
  dsimp only
  unfold advanceReports
  rw [hwrapped, hmoved]
  refine ⟨hr, stepToward_eq _ _ _, rfl, fun l hl => ?_, fun l hl => ?_, ⟨_, rfl, fun l hl => ?_, fun l hl => ?_⟩, rfl, rfl, rfl,
    rfl, rfl, rfl, rfl, rfl, rfl⟩
  · exact (hslots l).trans (playedSlot_rest (s := rated (s.dropReturn rest)) hl ..)
  · rw [hplay l hl]
    refine ⟨fun hp => ?_, fun p hp => ?_⟩
    · rw [playSlot_unparked _ _ _ _ _ _ _ hp]
      simp only [Bool.false_eq_true, false_and, or_false]
      exact ⟨fun hpark => if_pos hpark, fun hpark => if_neg hpark⟩
    · rw [playSlot_parked _ _ _ _ _ _ _ hp]
      exact ⟨fun hjoin => if_pos hjoin, fun hjoin => if_neg hjoin⟩
  · rw [PerLeg.get_ofFn]
    exact reportFor_rest (s := played (rated (s.dropReturn rest)) r false) hl ..
  · obtain ⟨hbank, hoffset, -⟩ := playSlot_member s.sup.op (s.header (s.engine.slots.get l).bank) (s.engine.slots.get l)
      s.engine.master (s.engine.master + BitVec.ofNat 16 r) r false
    rw [← hplay l hl] at hbank hoffset
    rw [PerLeg.get_ofFn, reportFor_playing (s := played (rated (s.dropReturn rest)) r false) hl, hr, hbank]
    exact congrArg some (legReport_kept (s.header (s.engine.slots.get l).bank) (before := s.engine.slots.get l) hbank hoffset r)

/-! ## An advance at the wrap with a gait pending (R34) -/

/-- The state after an advance's stages 1 to 5 where the gait `g` is applied. -/
theorem moved_of_gait {s : State} {r g : Nat} (hr : s.steppedRate = r) (hg : s.engine.pendingGait = some g)
    (hwrap : 65536 ≤ s.engine.master.toNat + r) :
    wrapped s = (wrappedTo (rated s) g, true) ∧ moved s = played (wrappedTo (rated s) g) r true := by
  have hwrapped : wrapped s = (wrappedTo (rated s) g, true) := by
    obtain ⟨g', hg', -, heq⟩ | ⟨hnone, -⟩ := wrapped_cases s
    · obtain rfl := Option.some.inj (hg.symm.trans hg')
      exact heq
    · have := hnone g hg
      omega
  exact ⟨hwrapped, by rw [moved, hwrapped, hr]⟩

/-- The slot that the wrap gives a playing leg (R34). -/
theorem wrapSlot_some {s : State} {g : Nat} {l : LegId} {m : Member} {mirror : Bool}
    (h : slotMember (s.gait g) s.sup.modes l = some (m, mirror)) :
    s.wrapSlot g l = if (s.engine.slots.get l).parked.isSome then parkedSlot (s.header m.bank).touchdown m mirror
      else { s.engine.slots.get l with bank := m.bank, offset := m.offset, mirror := mirror } := by
  unfold State.wrapSlot
  rw [h]

theorem wrapSlot_none {s : State} {g : Nat} {l : LegId} (h : slotMember (s.gait g) s.sup.modes l = none) :
    s.wrapSlot g l = restSlot := by
  unfold State.wrapSlot
  rw [h]

/-- The report of a slot that was re-derived at the wrap: it crosses nothing. -/
theorem legReport_wrapped (h : Header) {before after : Slot} {m : Member} (hbank : after.bank = m.bank)
    (hoffset : after.offset = m.offset) (r : Nat) :
    legReport h before after r true = {
      liftoff := !before.swing && after.swing
      touchdown := before.swing && !after.swing && !decide (fwd h.liftoff after.phase < fwd h.liftoff h.touchdown)
      parked := before.parked.isNone && after.parked.isSome
      oldPhase := before.phase, newPhase := after.phase, rate := r
      crossing := false, kept := decide (before.bank = m.bank ∧ before.offset = m.offset), swingAfter := after.swing
      bank := m.bank, offset := m.offset } := by
  have hkept : (before.bank == m.bank && before.offset == m.offset) = decide (before.bank = m.bank ∧ before.offset = m.offset) := by
    rw [Bool.eq_iff_iff]
    simp
  simp only [legReport, hbank, hoffset, hkept, Bool.not_true, Bool.and_false]
  rfl

/-- What stages 4 and 5 make of a slot that the wrap has given its new member (R34, R37, R39). -/
def WrapPlayed (op : OpState) (h : Header) (m : Member) (mirror : Bool) (old sl : Slot) (mOld mNew : Phase) (r : Nat) : Prop :=
  sl.bank = m.bank ∧ sl.offset = m.offset ∧ sl.mirror = mirror
  ∧ (old.parked = none → sl.phase = mNew + m.offset)
  ∧ (old.parked.isSome = true → op = .stopping →
      sl.parked = some h.touchdown ∧ sl.phase = h.touchdown ∧ sl.swing = false)
  ∧ (old.parked.isSome = true → op = .walking →
      let ahead := fwd (mOld + m.offset) h.touchdown
      (1 ≤ ahead ∧ ahead ≤ r → sl.phase = mNew + m.offset ∧ sl.parked = none ∧ sl.swing = h.inSwing sl.phase)
      ∧ (¬(1 ≤ ahead ∧ ahead ≤ r) → sl.phase = h.touchdown ∧ sl.parked = some h.touchdown ∧ sl.swing = false))
  ∧ (old.parked = none → op = .stopping →
      let ahead := fwd old.phase h.touchdown
      let parks := (1 ≤ ahead ∧ ahead ≤ r) ∨ h.emptyWindow = true
      (parks → sl.parked = some sl.phase ∧ sl.swing = false)
      ∧ (¬parks → sl.parked = none ∧ sl.swing = h.inSwing sl.phase))
  ∧ (old.parked = none → op = .walking → sl.parked = none ∧ sl.swing = h.inSwing sl.phase)

/-- A leg parked before the wrap. -/
theorem wrapPlayed_parked {op : OpState} (h : Header) (m : Member) (mirror : Bool) {old : Slot}
    (hp : old.parked.isSome = true) (mOld mNew : Phase) (r : Nat) (w : Bool) :
    WrapPlayed op h m mirror old (playSlot op h (parkedSlot h.touchdown m mirror) mOld mNew r w) mOld mNew r := by
  have hne : old.parked ≠ none := fun hn => by rw [hn] at hp; cases hp
  obtain ⟨hbank, hoffset, hmirror⟩ := playSlot_member op h (parkedSlot h.touchdown m mirror) mOld mNew r w
  refine ⟨hbank, hoffset, hmirror, fun hn => absurd hn hne, fun _ hop => ?_, fun _ hop => ⟨fun hjoin => ?_, fun hstay => ?_⟩,
    fun hn => absurd hn hne, fun hn => absurd hn hne⟩
  · rw [playSlot_parked _ _ _ _ _ _ _ rfl, if_neg (by rw [hop]; simp)]
    exact ⟨rfl, rfl, rfl⟩
  · rw [playSlot_parked _ _ _ _ _ _ _ rfl, if_pos ⟨hop, hjoin⟩]
    exact ⟨rfl, rfl, rfl⟩
  · rw [playSlot_parked _ _ _ _ _ _ _ rfl, if_neg fun hjoin => hstay hjoin.2]
    exact ⟨rfl, rfl, rfl⟩

/-- A leg unparked before the wrap. -/
theorem wrapPlayed_unparked {op : OpState} (h : Header) (m : Member) (mirror : Bool) {old : Slot} (hp : old.parked = none)
    (mOld mNew : Phase) (r : Nat) :
    WrapPlayed op h m mirror old
      (playSlot op h { old with bank := m.bank, offset := m.offset, mirror := mirror } mOld mNew r true) mOld mNew r := by
  have hne : ¬old.parked.isSome = true := by simp [hp]
  obtain ⟨hbank, hoffset, hmirror⟩ :=
    playSlot_member op h { old with bank := m.bank, offset := m.offset, mirror := mirror } mOld mNew r true
  have hplay := playSlot_unparked h { old with bank := m.bank, offset := m.offset, mirror := mirror } mOld mNew r true op hp
  simp only [true_and] at hplay
  refine ⟨hbank, hoffset, hmirror, fun _ => ?_, fun hs => absurd hs hne, fun hs => absurd hs hne,
    fun _ hop => ⟨fun hpark => ?_, fun hstay => ?_⟩, fun _ hop => ?_⟩
  · rw [hplay]
    split <;> rfl
  · rw [hplay, if_pos ⟨hop, hpark⟩]
    exact ⟨rfl, rfl⟩
  · rw [hplay, if_neg fun hpark => hstay hpark.2]
    exact ⟨hp, rfl⟩
  · rw [hplay, if_neg (by rw [hop]; simp)]
    exact ⟨hp, rfl⟩

/-- Settles O28: as O27, from the slots that the wrap has given their new members (`wrapPlayed_parked`, `wrapPlayed_unparked`). -/
theorem pendingGaitAppliesAtWrap : Obligations.PendingGaitAppliesAtWrap := by
  intro s tag rest r g h hop htop hstep hg hwrap
  have hr : (s.dropReturn rest).steppedRate = r := steppedRate_eq hstep
  obtain ⟨hwrapped, hmoved⟩ := moved_of_gait (s := s.dropReturn rest) hr hg hwrap
  obtain ⟨armed, draws, raises, hexec⟩ := exec_advance_moving h (advances_of_moving hop htop)
  let u := wrappedTo (rated (s.dropReturn rest)) g
  have hslot : ∀ l, u.engine.slots.get l = (rated (s.dropReturn rest)).wrapSlot g l := fun l => PerLeg.get_ofFn ..
  have hrest : ∀ l, slotMember (s.gait g) s.sup.modes l = none → u.playing l = false := fun l hl => by
    show (slotMember (s.gait g) s.sup.modes l).isSome = false
    rw [hl]; rfl
  have hplaying : ∀ l m mirror, slotMember (s.gait g) s.sup.modes l = some (m, mirror) → u.playing l = true :=
    fun l m mirror hl => by
      show (slotMember (s.gait g) s.sup.modes l).isSome = true
      rw [hl]; rfl
  have hplayed : ∀ l m mirror, slotMember (s.gait g) s.sup.modes l = some (m, mirror) →
      WrapPlayed s.sup.op (s.header m.bank) m mirror (s.engine.slots.get l) ((played u r true).engine.slots.get l)
        s.engine.master (s.engine.master + BitVec.ofNat 16 r) r := fun l m mirror hl => by
    rw [played_slots, playedSlot_playing (hplaying l m mirror hl), hslot,
      wrapSlot_some (s := rated (s.dropReturn rest)) hl]
    cases hp : (s.engine.slots.get l).parked with
    | some p =>
      rw [if_pos (by show (s.engine.slots.get l).parked.isSome = true; rw [hp]; rfl)]
      exact wrapPlayed_parked _ m mirror (by rw [hp]; rfl) ..
    | none =>
      rw [if_neg (by show ¬(s.engine.slots.get l).parked.isSome = true; rw [hp]; decide)]
      exact wrapPlayed_unparked _ m mirror hp ..
  refine ⟨_, hexec, ?_⟩
  dsimp only
  unfold advanceReports
  rw [hwrapped, hmoved]
  refine ⟨rfl, rfl, rfl, rfl, rfl, fun l hl => ?_, hplayed, ⟨_, rfl, fun l hl => ?_, fun l m mirror hl => ?_⟩, rfl, rfl, rfl,
    rfl, rfl⟩
  · exact ((played_slots u r true l).trans (playedSlot_rest (hrest l hl) ..)).trans ((hslot l).trans (wrapSlot_none hl))
  · rw [PerLeg.get_ofFn]
    exact reportFor_rest (s := played u r true) (hrest l hl) ..
  · obtain ⟨hbank, hoffset, -⟩ := hplayed l m mirror hl
    rw [PerLeg.get_ofFn, reportFor_playing (s := played u r true) (hplaying l m mirror hl), hr, hbank]
    exact congrArg some (legReport_wrapped (s.header m.bank) (before := s.engine.slots.get l) hbank hoffset r)

end Sys2Proof.Machine
end

section
/-!
The joint shaper (chapter 7): the deviation between two knots, the composition of the four records, and the max step.
-/

namespace Sys2Proof.Machine

-- One proof after another: side by side they take more threads than the memory limit of the check allows.
set_option Elab.async false

/-! ## The deviation between two knots (R124) -/

theorem interpolate_eq (k : List Int) (p : Phase) :
    interpolate k p = k.getD (p.toNat / 2048) 0
      + (k.getD ((p.toNat / 2048 + 1) % 32) 0 - k.getD (p.toNat / 2048) 0) * ((p.toNat % 2048 : Nat) : Int) / 2048 := by
  have hmod : p.toNat - 2048 * (p.toNat / 2048) = p.toNat % 2048 := by omega
  simp only [interpolate, floorDiv_eq_ediv _ (by decide : (0 : Int) ≤ 2048), knot, hmod]

/-- A part of a difference, of 2048 parts, lies between 0 and the difference. -/
theorem part_between (d : Int) {f : Nat} (hf : f < 2048) : min 0 d ≤ d * f / 2048 ∧ d * f / 2048 ≤ max 0 d := by
  obtain h | h := le_total 0 d
  · have hlo : 0 ≤ d * f := by positivity
    have hhi : d * f ≤ d * 2048 := by gcongr; omega
    omega
  · have hlo : d * 2048 ≤ d * f := mul_le_mul_of_nonpos_left (by omega) h
    have hhi : d * f ≤ 0 := mul_nonpos_of_nonpos_of_nonneg h (by positivity)
    omega

/-- Settles O29: the part of the difference added to a knot is nothing at the knot, and never beyond the next (`part_between`). -/
theorem deviationLiesBetweenKnots : Obligations.DeviationLiesBetweenKnots := by
  intro k p i a b
  have hpart := part_between (b - a) (Nat.mod_lt p.toNat (by decide : 0 < 2048))
  rw [interpolate_eq]
  change (_ → a + (b - a) * ((p.toNat % 2048 : Nat) : Int) / 2048 = a) ∧ min a b ≤ a + (b - a) * ((p.toNat % 2048 : Nat) : Int) / 2048
    ∧ a + (b - a) * ((p.toNat % 2048 : Nat) : Int) / 2048 ≤ max a b
  refine ⟨fun h => by rw [h]; simp, ?_, ?_⟩ <;> omega

/-! ## The raw target (R124 to R127) -/

theorem deviation_eq (s : State) (sl : Slot) (j : JointId) :
    s.deviation sl j
      = let v := interpolate ((s.profile sl.bank).knots.get j) (sl.parked.getD sl.phase)
        if sl.mirror = true ∧ j = .ab then -v else v := rfl

theorem sideAmp_eq (e : Engine) (l : LegId) :
    e.sideAmp l = max 0 (min 256 (if l = .lf ∨ l = .lh then (e.amp : Int) + e.intent.turn else (e.amp : Int) - e.intent.turn)) := by
  unfold Engine.sideAmp
  rw [clampI_eq _ (by decide)]
  cases l <;> rfl

theorem directionSign_eq (d : Direction) : d.sign = if d = .forward then 1 else -1 := by cases d <;> rfl

theorem crouchKnot_eq (j : JointId) : crouchKnot j = match j with | .ab => 0 | .hf => 400 | .kn => 800 := by cases j <;> rfl

/-- The gait term that is blended, in the terms of the statement (R124, R125, R127). -/
theorem blendedGait_eq (s : State) (l : LegId) (j : JointId) :
    s.blendedGait l j =
      let sl := s.engine.slots.get l
      let v0 := interpolate ((s.profile sl.bank).knots.get j) (sl.parked.getD sl.phase)
      let v := if sl.mirror = true ∧ j = .ab then -v0 else v0
      let side : Int := if l = .lf ∨ l = .lh then s.engine.amp + s.engine.intent.turn else s.engine.amp - s.engine.intent.turn
      let dir : Int := if s.engine.intent.direction = .forward then 1 else -1
      if s.sup.modes.get l ≠ .active then 0
      else if (s.header sl.bank).scale.get j = true then v * max 0 (min 256 side) / 256 * dir else v := by
  unfold State.blendedGait
  cases hm : s.sup.modes.get l with
  | active =>
    simp only [State.gaitTerm, deviation_eq, sideAmp_eq, directionSign_eq, floorDiv_eq_ediv _ (by decide : (0 : Int) ≤ 256),
      ne_eq, not_true_eq_false, if_false]
  | strut | stowed | faulted => simp

/-- The raw target of the statement is the model's. -/
theorem rawTarget_of {s : State} {l : LegId} {lim : JointLimits} {j : JointId} {prev raw : Int}
    (h : RawTarget s l lim j prev raw) : s.rawTarget l lim j prev = raw := by
  unfold RawTarget at h
  rw [h]
  unfold State.rawTarget
  rw [blendedGait_eq, crouchKnot_eq]
  simp only [interpolate_eq, floorDiv_eq_ediv _ (by decide : (0 : Int) ≤ 256)] <;> cases j <;> rfl

/-! ## Composition (R121 to R131) -/

theorem exec_composition {s : State} {tag : Byte} {rest : List Byte} (h : s.wires.phaseUpdates = tag :: rest) :
    exec .composition s
      = .next { s with shaper := .ofFn (s.composeLeg tag), wires := { s.wires with phaseUpdates := rest } } := by
  simp only [exec, execComposition, h]

theorem positions_none {s : State} {l : LegId}
    (h : s.sup.op = .config ∨ s.sup.modes.get l = .faulted ∨ s.limits.get l = none) : s.positions l = none := by
  unfold State.positions
  split
  · rfl
  · split
    · rfl
    · obtain h | h | h := h
      · exact absurd h ‹_›
      · exact absurd h ‹_›
      · exact h

theorem positions_some {s : State} {l : LegId} {lims : PerJoint JointLimits} (hop : s.sup.op ≠ .config)
    (hmode : s.sup.modes.get l ≠ .faulted) (hl : s.limits.get l = some lims) : s.positions l = some lims := by
  unfold State.positions
  rw [if_neg hop, if_neg hmode, hl]

/-- The target of a joint, from the previous target that its slew starts from. -/
theorem target_eq (s : State) (l : LegId) (lims : PerJoint JointLimits) (j : JointId) :
    s.target l lims j
      = let prev := (s.shaper.get l).start (lims.get j) j
        clampI (prev + clampI (s.rawTarget l (lims.get j) j prev - prev) (-((lims.get j).maxStep : Int)) (lims.get j).maxStep)
          (lims.get j).min (lims.get j).max := rfl

/-- Settles O30: a HOLD where no position is due (`composeLeg_none`), else a POSITION of the targets of the raw targets that the
statement names (`composeLeg_some`, `rawTarget_of`). -/
theorem compositionWritesEveryLeg : Obligations.CompositionWritesEveryLeg := by
  refine ⟨fun s tag rest h => ⟨_, exec_composition h, fun l hl => ?_, rfl⟩, fun s tag rest h => ⟨_, exec_composition h,
    fun l lims hop hmode hl => ?_⟩⟩
  · exact (PerLeg.get_ofFn ..).trans (composeLeg_none (positions_none hl) tag)
  · have hleg : (PerLeg.ofFn (s.composeLeg tag)).get l = _ :=
      (PerLeg.get_ofFn ..).trans (composeLeg_some (positions_some hop hmode hl) tag)
    dsimp only
    rw [hleg]
    refine ⟨rfl, rfl, rfl, fun j raw prev hprev hraw => ?_⟩
    have hstart : (s.shaper.get l).start (lims.get j) j = prev := hprev.symm
    refine (PerJoint.get_ofFn ..).trans ?_
    rw [target_eq]
    simp only [hstart, rawTarget_of hraw]

/-! ## The max step (R128, R130) -/

/-- A value that lies within two limits, moved by at most a step and clamped into them, moves by at most the step. -/
theorem slewed_within {a raw lo hi : Int} {step : Nat} (hlo : lo ≤ a) (hhi : a ≤ hi) :
    (clampI (a + clampI (raw - a) (-(step : Int)) step) lo hi - a).natAbs ≤ step := by
  rw [clampI_eq _ (hlo.trans hhi), clampI_eq _ (by omega)]
  omega

/-- Where a POSITION record stands, the slew starts from its targets (R128, R129). -/
theorem start_of_position {s : State} (h : DriveLaw s) {l : LegId} {a : PerJoint Int} {k : Nat} {tag : Byte}
    (hrec : (s.shaper.get l).record = .position a k tag) (lim : JointLimits) (j : JointId) :
    (s.shaper.get l).start lim j = a.get j := by
  obtain ⟨-, -, hpos⟩ := h
  obtain ⟨hprev, -⟩ := hpos l a k tag hrec
  unfold LegShape.start LegShape.seed
  rw [hprev, hrec]
  split <;> rfl

/-- Settles O31: the slew starts from the targets of the record before, which lie within the limits. -/
theorem successivePositionsWithinMaxStep : Obligations.SuccessivePositionsWithinMaxStep := by
  intro s t l lims a b ka kb ta tb hlaw hlims hexec ha hb j
  cases hup : s.wires.phaseUpdates with
  | nil =>
    have heq : exec .composition s = .next s := by simp only [exec, execComposition, hup]
    obtain rfl := Host.Outcome.next.inj (heq.symm.trans hexec)
    cases ha.symm.trans hb
    simp
  | cons tag rest =>
    obtain rfl := Host.Outcome.next.inj ((exec_composition hup).symm.trans hexec)
    have hrec : (s.composeLeg tag l).record = .position b kb tb := by
      rw [← hb]
      exact congrArg LegShape.record (PerLeg.get_ofFn ..).symm
    cases hp : s.positions l with
    | none => rw [composeLeg_none hp] at hrec; cases hrec
    | some lims' =>
      obtain rfl := Option.some.inj (hlims.symm.trans (positions_limits hp))
      rw [composeLeg_some hp] at hrec
      cases hrec
      have hkeep := hlaw
      obtain ⟨-, -, hpos⟩ := hkeep
      obtain ⟨-, lims', hlims', hwithin⟩ := hpos l a ka ta ha
      obtain rfl := Option.some.inj (hlims.symm.trans hlims')
      rw [PerJoint.get_ofFn, target_eq]
      simp only [start_of_position hlaw ha]
      exact slewed_within (hwithin j).1 (hwithin j).2

end Sys2Proof.Machine
end

section
/-! ## The arbiter in the statements' terms (R84, R90 to R93) -/
namespace Sys2Proof.Machine

-- One proof after another: side by side they take more threads than the memory limit of the check allows.
set_option Elab.async false

/-! ### The candidate and the test -/

theorem linePriority_eq (a : Arbiter) (n : Nat) : LinePriority a n = a.priority n := by
  unfold LinePriority
  split
  · next h => simp only [Arbiter.priority, lineSource, if_pos h]; rfl
  split
  · next h => subst h; rfl
  split
  · next h => subst h; rfl
  · rfl

theorem lineHard_iff (n : Nat) : lineHard n = true ↔ n ≤ 5 := by
  by_cases h3 : n ≤ 3
  · simp only [lineHard, lineSource, if_pos h3, Source.isHard, true_iff]; omega
  by_cases h4 : n = 4
  · subst h4; decide
  by_cases h5 : n = 5
  · subst h5; decide
  have hsoft : (lineSource n).isHard = false := by
    simp only [lineSource, if_neg h3, if_neg h4, if_neg h5]
    repeat' split
    all_goals rfl
  unfold lineHard
  rw [hsoft]
  exact ⟨fun h => (nomatch h), fun h => by omega⟩

theorem takeable_iff (a : Arbiter) (c : Nat) : Takeable a c ↔ a.passes c = true := by
  unfold Takeable Arbiter.passes
  rw [linePriority_eq]
  cases a.nesting with
  | true => simp
  | false => simp [List.isEmpty_iff, lineHard_iff]

/-- The best of the pending lines below `k`, as the statement of R90 words it. -/
def BestBelow (a : Arbiter) (k : Nat) : Option Nat → Prop
  | none => ∀ n, n < k → a.isPending n = false
  | some c => c < k ∧ a.isPending c = true
    ∧ ∀ n, n < k → a.isPending n = true → a.priority n < a.priority c ∨ (a.priority n = a.priority c ∧ c ≤ n)

theorem bestBelow_foldl (a : Arbiter) (k : Nat) : BestBelow a k ((List.range k).foldl a.better none) := by
  induction k with
  | zero => exact fun n hn => absurd hn (Nat.not_lt_zero n)
  | succ k ih =>
    rw [List.range_succ, List.foldl_append]
    simp only [List.foldl_cons, List.foldl_nil]
    generalize (List.range k).foldl a.better none = best at ih ⊢
    unfold Arbiter.better
    by_cases hk : a.isPending k = true
    · rw [if_pos hk]
      cases best with
      | none =>
        refine ⟨Nat.lt_succ_self k, hk, fun n hn hp => ?_⟩
        obtain hlt | rfl := Nat.lt_succ_iff_lt_or_eq.mp hn
        · rw [ih n hlt] at hp; cases hp
        · exact .inr ⟨rfl, Nat.le_refl _⟩
      | some b =>
        obtain ⟨hb, hpb, hbest⟩ := ih
        dsimp only
        split
        · next hlt =>
          refine ⟨Nat.lt_succ_self k, hk, fun n hn hp => ?_⟩
          obtain hn | rfl := Nat.lt_succ_iff_lt_or_eq.mp hn
          · have := hbest n hn hp; omega
          · exact .inr ⟨rfl, Nat.le_refl _⟩
        · next hge =>
          refine ⟨Nat.lt_succ_of_lt hb, hpb, fun n hn hp => ?_⟩
          obtain hn | rfl := Nat.lt_succ_iff_lt_or_eq.mp hn
          · exact hbest n hn hp
          · omega
    · rw [if_neg hk]
      cases best with
      | none =>
        intro n hn
        obtain hlt | rfl := Nat.lt_succ_iff_lt_or_eq.mp hn
        · exact ih n hlt
        · exact Bool.not_eq_true _ ▸ hk
      | some b =>
        obtain ⟨hb, hpb, hbest⟩ := ih
        refine ⟨Nat.lt_succ_of_lt hb, hpb, fun n hn hp => ?_⟩
        obtain hlt | rfl := Nat.lt_succ_iff_lt_or_eq.mp hn
        · exact hbest n hlt hp
        · exact absurd hp hk

/-- The model's candidate is that of R90, of which there is at most one. -/
theorem candidate_some_iff (a : Arbiter) (c : Nat) : a.candidate = some c ↔ IsCandidate a c := by
  have hbest := bestBelow_foldl a 32
  unfold Arbiter.candidate IsCandidate
  simp only [linePriority_eq]
  cases h : (List.range 32).foldl a.better none with
  | none =>
    rw [h] at hbest
    exact ⟨fun hc => (nomatch hc), fun ⟨hc, hp, _⟩ => by rw [show a.pending.getLsbD c = false from hbest c hc] at hp; cases hp⟩
  | some b =>
    rw [h] at hbest
    obtain ⟨hb, hpb, hmax⟩ := hbest
    constructor
    · rintro ⟨rfl⟩
      exact ⟨hb, hpb, hmax⟩
    · rintro ⟨hc, hpc, hcmax⟩
      have h1 := hmax c hc hpc
      have h2 := hcmax b hb hpb
      rw [show b = c by omega]

/-! ### An entry pushed -/

/-- What an action's start or resumption leaves, but for the SAFE entry of a RING-LOSS. -/
def readied (s : State) (e : Entry) (below : List Entry) : State :=
  { s with
    arbiter := { s.arbiter with stack := { e with contribution := if e.action = .retract then e.parameter else 0 } :: below }
    unit := { s.unit with
      weight := if e.action = .crouch then 0 else s.unit.weight, finished := startFinish s e.action e.leg }
    wires := { s.wires with stopRequests := s.wires.stopRequests + if e.action = .stop then 1 else 0 } }

theorem plantLooks_eq {s : State} (e : Entry) (hclear : s.unit.finished = .clear) :
    s.plantLooks e = { s with unit := { s.unit with finished := startFinish s .plant e.leg } } := by
  unfold State.plantLooks startFinish
  cases e.leg with
  | none => simp only [← hclear]
  | some l =>
    by_cases hloaded : (s.monitor.legs.get l).contact = .loaded
    · simp only [if_pos hloaded]; rfl
    · simp only [if_neg hloaded, ← hclear]

theorem stopAsks_eq {s : State} (leg : Option LegId) (hclear : s.unit.finished = .clear) :
    s.stopAsks = { s with
      unit := { s.unit with finished := startFinish s .stop leg }
      wires := { s.wires with stopRequests := s.wires.stopRequests + 1 } } := by
  have hfinish : startFinish s .stop leg = if s.sup.op = .standing then .reported .complete else .clear := by
    cases leg <;> rfl
  rw [hfinish]
  unfold State.stopAsks
  by_cases hop : s.sup.op = .standing
  · rw [if_pos hop, if_pos hop]; rfl
  · rw [if_neg hop, if_neg hop, ← hclear]; rfl

theorem startAction_eq {s : State} {e : Entry} {below : List Entry} (hstack : s.arbiter.stack = e :: below)
    (hclear : s.unit.finished = .clear) (hzero : e.contribution = 0) (hnone : e.action ≠ .none) :
    s.startAction e = readied s e below := by
  obtain ⟨line, leg, priority, action, duration, parameter, progress, contribution, reach⟩ := e
  obtain ⟨banks, gaits, engine, monitor, balance, ⟨pending, stack, level, nesting, sources, fallCrouch⟩,
    ⟨hold, weight, finished⟩, shaper, limits, ring, sup, link, wires, draws, queue⟩ := s
  cases hstack
  cases hclear
  cases hzero
  cases action with
  | hold | note | retract | crouch => rfl
  | plant => exact plantLooks_eq _ rfl
  | stop => exact stopAsks_eq leg rfl
  | none => exact absurd rfl hnone

theorem resumeAction_eq {s : State} (e : Entry) (hclear : s.unit.finished = .clear) :
    s.resumeAction e = { s with
      unit := { s.unit with finished := startFinish s e.action e.leg }
      wires := { s.wires with stopRequests := s.wires.stopRequests + if e.action = .stop then 1 else 0 } } := by
  obtain ⟨line, leg, priority, action, duration, parameter, progress, contribution, reach⟩ := e
  obtain ⟨banks, gaits, engine, monitor, balance, arbiter, ⟨hold, weight, finished⟩, shaper, limits, ring, sup, link, wires,
    draws, queue⟩ := s
  cases hclear
  cases action with
  | hold | note | retract | crouch | none => rfl
  | plant => exact plantLooks_eq _ rfl
  | stop => exact stopAsks_eq leg rfl

theorem shed_of_room {s : State} (h : s.arbiter.stack[3]? = none) : s.shed = s :=
  if_pos (Nat.lt_succ_of_le (List.getElem?_eq_none_iff.mp h))

theorem shed_of_full {s : State} {b : Entry} (hlen : s.arbiter.stack.length ≤ 4) (h : s.arbiter.stack[3]? = some b) :
    s.shed = { s with
      arbiter := { s.arbiter with stack := s.arbiter.stack.take 3 }
      unit := { s.unit with reachHold := settle s.unit.reachHold b, finished := .clear }
      link := s.link.post (newAlert .reflexDone (.line b.line) (.outcome .shed) s.ring.tag b.progress) } := by
  obtain ⟨hlt, -⟩ := List.getElem?_eq_some_iff.mp h
  have hlength : s.arbiter.stack.length = 4 := by omega
  have hlast : s.arbiter.stack.getLast? = some b := by rw [List.getLast?_eq_getElem?, hlength]; exact h
  unfold State.shed
  rw [if_neg (by rw [hlength]; decide), hlast, List.dropLast_eq_take, hlength]
  rfl

theorem settle_get (hold : PerLeg Nat) (e : Entry) (l : LegId) :
    (settle hold e).get l = if e.action = .plant ∧ e.leg = some l then min (hold.get l + e.reach) 1023 else hold.get l := by
  unfold settle
  split
  · next i ha hi =>
    by_cases hl : i = l
    · subst hl; rw [if_pos ⟨ha, hi⟩]; simp
    · rw [if_neg fun ⟨_, h⟩ => hl (Option.some.inj (hi.symm.trans h)), PerLeg.get_set_ne]
      exact Ne.symm hl
  · next hother => rw [if_neg fun ⟨ha, hi⟩ => hother _ ha hi]

/-- The candidate taken and its entry pushed (R86, R92), before a RING-LOSS entry's request of SAFE. -/
def takenLine (q : State) (c : Nat) : State :=
  let alerted := (pushed (unpended q c) c).alert .reflexTaken (.line c) .none (pushed (unpended q c) c).arbiter.stack.length
  if (q.arbiter.settings (lineSource c)).action = .none then alerted
  else readied alerted (q.arbiter.entryFor c) alerted.arbiter.stack.tail

/-- What a taking of a line that is no NOTE leaves: its entry pushed, and for a RING-LOSS SAFE entered (R102). -/
theorem take_of_pushed {q : State} {c : Nat} (hnote : (q.arbiter.settings (lineSource c)).action ≠ .note) :
    q.take c = if (q.arbiter.settings (lineSource c)).action = .none then (takenLine q c).enterSafe .freeze (some c)
      else takenLine q c := by
  have hentry : (unpended q c).shed.arbiter.entryFor c = q.arbiter.entryFor c := by rw [shed_arbiter]; rfl
  unfold State.take
  rw [if_neg hnote]
  show (unpended q c).push c = _
  rw [push_eq, hentry]
  unfold takenLine
  dsimp only
  split
  · next hnone =>
    unfold State.startAction
    rw [show (q.arbiter.entryFor c).action = .none from hnone]
    rfl
  · next hnone =>
    refine startAction_eq ?_ rfl rfl hnone
    show (pushed (unpended q c) c).arbiter.stack = _
    unfold pushed
    rw [hentry]
    rfl

/-- The line taken, from what the shedding leaves: the stack, the reach-holds and the link. -/
theorem takenLine_eq {q : State} {c : Nat} {stack : List Entry} {hold : PerLeg Nat} {finished : Finish} {k : Link}
    (hshed : (unpended q c).shed = { unpended q c with
      arbiter := { (unpended q c).arbiter with stack := stack }
      unit := { q.unit with reachHold := hold, finished := finished }, link := k }) :
    takenLine q c = { q with
      arbiter := { (unpended q c).arbiter with
        stack := { q.arbiter.entryFor c with
          contribution := if (q.arbiter.settings (lineSource c)).action = .retract
            then ((q.arbiter.settings (lineSource c)).parameter : Int) else 0 } :: stack
        level := LinePriority q.arbiter c }
      unit := {
        reachHold := hold, weight := if (q.arbiter.settings (lineSource c)).action = .crouch then 0 else q.unit.weight
        finished := startFinish q (q.arbiter.settings (lineSource c)).action (lineLeg c) }
      link := k.post (newAlert .reflexTaken (.line c) .none q.ring.tag (stack.length + 1 : Nat))
      wires := { q.wires with
        stopRequests := q.wires.stopRequests + if (q.arbiter.settings (lineSource c)).action = .stop then 1 else 0 } } := by
  unfold takenLine pushed
  rw [hshed, linePriority_eq]
  dsimp only
  split
  · next hnone =>
    simp only [hnone, reduceCtorEq, if_false]
    rfl
  · rfl

/-- A line taken is its entry pushed, in the statement's words. -/
theorem linePushed_takenLine {q : State} {c : Nat} (hlen : q.arbiter.stack.length ≤ 4) : LinePushed q (takenLine q c) c := by
  have hprio := linePriority_eq q.arbiter c
  cases hshed : q.arbiter.stack[3]? with
  | none =>
    have hshort : q.arbiter.stack.length ≤ 3 := List.getElem?_eq_none_iff.mp hshed
    have htake : q.arbiter.stack.take 3 = q.arbiter.stack := List.take_of_length_le hshort
    have hmin : min (q.arbiter.stack.length + 1) 4 = q.arbiter.stack.length + 1 := by omega
    rw [takenLine_eq (hold := q.unit.reachHold) (shed_of_room (s := unpended q c) hshed)]
    unfold LinePushed
    rw [hshed, htake, hmin, hprio]
    exact ⟨fun n => isPending_clear _ c n, rfl, fun _ => rfl, rfl, rfl, rfl, rfl⟩
  | some b =>
    have hlength : (List.take 3 (unpended q c).arbiter.stack).length = 3 := by
      obtain ⟨hlt, -⟩ := List.getElem?_eq_some_iff.mp hshed
      rw [List.length_take]; exact Nat.min_eq_left (Nat.le_of_lt hlt)
    have hmin : min (q.arbiter.stack.length + 1) 4 = 3 + 1 := by
      obtain ⟨hlt, -⟩ := List.getElem?_eq_some_iff.mp hshed
      omega
    rw [takenLine_eq (shed_of_full (s := unpended q c) hlen hshed)]
    unfold LinePushed
    rw [hshed, hmin, hprio, hlength]
    exact ⟨fun n => isPending_clear _ c n, rfl, fun l => settle_get _ b l, rfl, rfl, rfl, rfl⟩

/-! ### Re-examination -/

theorem reexamineN_of_not_live {n : Nat} {s : State} (h : s.sup.op.isLive = false) : s.reexamineN n = s := by
  cases n with
  | zero => rfl
  | succ n => exact if_neg (by rw [h]; exact Bool.false_ne_true)

theorem reexamineN_of_none_takeable {n : Nat} {s : State} (h : ∀ c, IsCandidate s.arbiter c → ¬Takeable s.arbiter c) :
    s.reexamineN n = s := by
  cases n with
  | zero => rfl
  | succ n =>
    unfold State.reexamineN
    split
    · split
      · next c hc =>
        rw [candidate_some_iff] at hc
        rw [if_neg fun hp => h c hc ((takeable_iff ..).mpr hp)]
      · rfl
    · rfl

theorem reexamineN_of_takeable {n : Nat} {s : State} {c : Nat} (hlive : s.sup.op.isLive = true)
    (hc : IsCandidate s.arbiter c) (ht : Takeable s.arbiter c) : s.reexamineN (n + 1) = State.reexamineN n (s.take c) := by
  rw [takeable_iff] at ht
  rw [← candidate_some_iff] at hc
  simp only [State.reexamineN, if_pos hlive, hc, if_pos ht]

/-- After a line's entry is pushed no second one passes the test: its level is the highest priority pending. -/
theorem not_takeable_of_pushed {q t : State} {c d : Nat} (hc : IsCandidate q.arbiter c) (hpushed : LinePushed q t c)
    (hd : IsCandidate t.arbiter d) : ¬Takeable t.arbiter d := by
  obtain ⟨-, -, hmax⟩ := hc
  obtain ⟨hpending, harbiter, -⟩ := hpushed
  obtain ⟨hd32, hdp, -⟩ := hd
  rw [hpending d, Bool.and_eq_true] at hdp
  have hprio : LinePriority t.arbiter d = LinePriority q.arbiter d := by rw [harbiter]; rfl
  have hlevel : t.arbiter.level = LinePriority q.arbiter c := by rw [harbiter]
  have hstack : t.arbiter.stack ≠ [] := by rw [harbiter]; exact List.cons_ne_nil _ _
  have hle := hmax d hd32 hdp.1
  unfold Takeable
  rw [hprio, hlevel]
  rintro (⟨-, hlt⟩ | ⟨-, hempty | ⟨-, hlt⟩⟩)
  · omega
  · exact hstack hempty
  · omega

end Sys2Proof.Machine
end

section
/-! ## The applied reset and the entry into SAFE in the statements' terms (R96, R160, R118) -/
namespace Sys2Proof.Machine

-- One proof after another: side by side they take more threads than the memory limit of the check allows.
set_option Elab.async false

/-! ### The soft reset -/

/-- Two links that differ at most in what waits to be sent, the alerts and the status count. -/
structure LinkAlike (k k' : Link) : Prop where
  inbox     : k'.inbox = k.inbox
  rx        : k'.rx = k.rx
  interval  : k'.interval = k.interval
  sending   : k'.sending = k.sending
  statusBuf : k'.statusBuf = k.statusBuf

theorem LinkAlike.refl (k : Link) : LinkAlike k k := ⟨rfl, rfl, rfl, rfl, rfl⟩

theorem LinkAlike.trans {k k' k'' : Link} (h : LinkAlike k k') (h' : LinkAlike k' k'') : LinkAlike k k'' :=
  ⟨h'.inbox.trans h.inbox, h'.rx.trans h.rx, h'.interval.trans h.interval, h'.sending.trans h.sending,
    h'.statusBuf.trans h.statusBuf⟩

theorem linkAlike_post (k : Link) (a : AlertEntry) : LinkAlike k (k.post a) := by
  constructor <;> simp

theorem linkAlike_foldl {f : Link → Entry → Link} (hf : ∀ k e, LinkAlike k (f k e)) (l : List Entry) (k : Link) :
    LinkAlike k (l.foldl f k) := by
  induction l generalizing k with
  | nil => exact .refl k
  | cons e l ih => exact (hf k e).trans (ih _)

theorem linkAlike_resetAlerts (k : Link) (tag : Byte) (left : OpState) (stack : List Entry) :
    LinkAlike k (ResetAlerts k tag left stack) := by
  have hended := linkAlike_foldl (f := fun k e => k.post
    (newAlert .reflexDone (.line e.line) (.outcome .abandoned) tag e.progress)) (fun k _ => linkAlike_post k _) stack k
  have hdone (k : Link) : LinkAlike k { k.post (newAlert .resetDone .none .none tag 0) with statusCount := 0 } :=
    (linkAlike_post k _).trans ⟨rfl, rfl, rfl, rfl, rfl⟩
  unfold ResetAlerts
  dsimp only
  refine LinkAlike.trans ?_ (hdone _)
  split
  · exact hended
  · exact hended.trans (linkAlike_post _ _)

/-- Two states that an applied reset leaves alike but for the link: the second has what R160 keeps of the first. -/
structure ResetsAlike (s u : State) : Prop where
  modes    : ∀ l, resetMode (u.sup.modes.get l) = resetMode (s.sup.modes.get l)
  walk     : u.engine.walk = s.engine.walk
  contact  : u.monitor.settings = s.monitor.settings
  baseline : ∀ l, (u.monitor.legs.get l).baseline = (s.monitor.legs.get l).baseline
  balance  : u.softReset.balance = s.softReset.balance
  arbiter  : u.softReset.arbiter = s.softReset.arbiter
  measured : ∀ l, (u.shaper.get l).measured = (s.shaper.get l).measured
  ring     : u.ring = s.ring
  banks    : u.banks = s.banks
  gaits    : u.gaits = s.gaits
  limits   : u.limits = s.limits
  link     : LinkAlike s.link u.link

theorem ResetsAlike.refl (s : State) : ResetsAlike s s :=
  ⟨fun _ => rfl, rfl, rfl, fun _ => rfl, rfl, rfl, fun _ => rfl, rfl, rfl, rfl, rfl, .refl _⟩

theorem ResetsAlike.trans {s u v : State} (h : ResetsAlike s u) (h' : ResetsAlike u v) : ResetsAlike s v where
  modes l := (h'.modes l).trans (h.modes l)
  walk := h'.walk.trans h.walk
  contact := h'.contact.trans h.contact
  baseline l := (h'.baseline l).trans (h.baseline l)
  balance := h'.balance.trans h.balance
  arbiter := h'.arbiter.trans h.arbiter
  measured l := (h'.measured l).trans (h.measured l)
  ring := h'.ring.trans h.ring
  banks := h'.banks.trans h.banks
  gaits := h'.gaits.trans h.gaits
  limits := h'.limits.trans h.limits
  link := h.link.trans h'.link

theorem resetMode_eq (m : Mode) : resetMode m = if m = .faulted then .active else m := by
  cases m <;> rfl

/-- An applied reset is the soft reset with its alerts. -/
theorem applyReset_eq (s : State) : s.applyReset = { s.softReset with link := s.applyReset.link } := by
  unfold State.applyReset
  rw [alertDone_foldl]
  split <;> rfl

/-- What an applied reset leaves of a state that it leaves as it would leave `s` (R160). -/
theorem softResetLeaves_applyReset {s u : State} (h : ResetsAlike s u) : SoftResetLeaves s u.applyReset := by
  have hlink : LinkAlike s.link u.applyReset.link := by
    rw [applyReset_link]
    exact h.link.trans (linkAlike_resetAlerts ..)
  have hcount : u.applyReset.link.statusCount = 0 := by rw [applyReset_link]; rfl
  obtain ⟨hinbox, hrx, hinterval, hsending, hbuf⟩ := hlink
  rw [applyReset_eq]
  refine ⟨rfl, rfl, rfl, rfl, rfl, fun l => ?_, rfl, rfl, fun l => ?_, rfl, rfl, rfl, rfl, rfl, rfl, h.walk, ?_, fun l => ?_,
    h.contact, ?_, fun ht => ?_, h.arbiter, fun l => ?_, rfl, rfl, fun l => ?_, ?_, h.banks, h.gaits, h.limits, hinbox, hrx,
    hinterval, hcount, hsending, hbuf⟩
  · show PerLeg.get (.ofFn fun l => resetMode (u.sup.modes.get l)) l = _
    rw [PerLeg.get_ofFn, h.modes l, resetMode_eq]
  · show PerLeg.get (.all restSlot) l = restSlot
    exact PerLeg.get_all ..
  · show (resetEngine u.engine.walk).intent = _
    rw [h.walk]
    rfl
  · show PerLeg.get (.ofFn fun l => resetContact (u.monitor.legs.get l).baseline u.monitor.settings.maxAge) l = _
    rw [PerLeg.get_ofFn, h.baseline l, h.contact]
    rfl
  · show u.softReset.balance = { s.balance with
      heldPitch := 0, heldRoll := 0, heldPitchRate := 0, heldRollRate := 0, unusable := 0, blind := false
      refSource := .planner, refPitch := 0, refRoll := 0, band := u.softReset.balance.band, relevel := none
      tiltArm := true, fallArm := true }
    rw [h.balance]
    rfl
  · show u.softReset.balance.band = 0
    rw [h.balance]
    exact if_pos ht
  · exact PerLeg.get_all ..
  · show PerLeg.get (.ofFn fun l => ({ u.shaper.get l with
      prev := .all 0, prevValid := false, record := .hold u.ring.tag } : LegShape)) l = _
    rw [PerLeg.get_ofFn, ← h.measured l, h.ring]
  · show ({ u.ring with staleCount := ⟨.all 0, 0⟩, lastFresh := .all false, lossCount := 0, restoration := 0 } : Ring) = _
    rw [h.ring]

/-! ### The entry into SAFE -/

/-- SAFE entered in full with its alerts, before any reset that is then applied. -/
def safeMade (s : State) (p : Posture) (top : EndOutcome) : State :=
  { safeEntered s p with link := SafeAlerts s s.link top p }

theorem abortRelevel_link (s : State) :
    s.abortRelevel.link = match s.balance.relevel with
      | some r => s.link.post (newAlert .relevelAborted .none .none s.ring.tag r.taken)
      | none => s.link := by
  cases h : s.balance.relevel with
  | none => rw [abortRelevel_none s h]
  | some r => rw [abortRelevel_some s r h]; rfl

theorem safeMade_eq {s : State} {p : Posture} {r : Option Nat} {top : EndOutcome}
    (htop : ∀ e ∈ s.arbiter.stack.head?, endOutcome r true e = top) :
    (((s.alertEnded r).safeBlocks p).alertState .safe s.sup.op (some p)).abortRelevel = safeMade s p top := by
  have hended : s.alertEnded r = { s with link := match s.arbiter.stack with
      | [] => s.link
      | e :: below => below.foldl (fun k e => k.post (newAlert .reflexDone (.line e.line) (.outcome .abandoned) s.ring.tag e.progress))
          (s.link.post (newAlert .reflexDone (.line e.line) (.outcome top) s.ring.tag e.progress)) } := by
    cases hstack : s.arbiter.stack with
    | nil => exact alertEnded_nil r hstack
    | cons e below =>
      rw [alertEnded_cons r hstack, htop e (by rw [hstack]; rfl)]
  rw [hended, abortRelevel_eq, abortRelevel_link]
  rfl

theorem enterSafe_eq {s : State} {p : Posture} {r : Option Nat} {top : EndOutcome} (hlive : s.sup.op.isLive = true)
    (htop : ∀ e ∈ s.arbiter.stack.head?, endOutcome r true e = top) :
    s.enterSafe p r = if s.sup.resetPending = true then (safeMade s p top).applyReset else safeMade s p top := by
  unfold State.enterSafe
  rw [if_pos hlive]
  dsimp only
  rw [safeMade_eq htop]
  rfl

theorem linkAlike_safeAlerts (s : State) (k : Link) (top : EndOutcome) (p : Posture) : LinkAlike k (SafeAlerts s k top p) := by
  have hended : LinkAlike k (match s.arbiter.stack with
      | [] => k
      | e :: below => below.foldl (fun k e => k.post (newAlert .reflexDone (.line e.line) (.outcome .abandoned) s.ring.tag e.progress))
          (k.post (newAlert .reflexDone (.line e.line) (.outcome top) s.ring.tag e.progress))) := by
    split
    · exact .refl k
    · exact (linkAlike_post k _).trans (linkAlike_foldl (fun k _ => linkAlike_post k _) ..)
  have hchanged := hended.trans
    (linkAlike_post _ (newAlert .stateChange .none (.state .safe (some p)) s.ring.tag (opCode s.sup.op)))
  unfold SafeAlerts
  dsimp only
  split
  · exact hchanged.trans (linkAlike_post _ _)
  · exact hchanged

theorem resetsAlike_safeMade (s : State) (p : Posture) (top : EndOutcome) : ResetsAlike s (safeMade s p top) where
  modes _ := rfl
  walk := rfl
  contact := rfl
  baseline l := by
    show (PerLeg.get (.ofFn fun l => (s.monitor.legs.get l).abandon) l).baseline = _
    rw [PerLeg.get_ofFn]
    rfl
  balance := rfl
  arbiter := rfl
  measured _ := rfl
  ring := rfl
  banks := rfl
  gaits := rfl
  limits := rfl
  link := linkAlike_safeAlerts ..

/-- SAFE entered with a reset pending: the reset is applied upon it (R159, log 17). -/
theorem enterSafe_of_pending {r s : State} {p : Posture} {req : Option Nat} {top : EndOutcome} (hlive : s.sup.op.isLive = true)
    (htop : ∀ e ∈ s.arbiter.stack.head?, endOutcome req true e = top) (hpending : s.sup.resetPending = true)
    (halike : ResetsAlike r s) :
    SoftResetLeaves r (s.enterSafe p req)
    ∧ (s.enterSafe p req).link = ResetAlerts (SafeAlerts s s.link top p) s.ring.tag .safe [] := by
  rw [enterSafe_eq hlive htop, if_pos hpending, applyReset_link]
  exact ⟨softResetLeaves_applyReset (halike.trans (resetsAlike_safeMade s p top)), rfl⟩

theorem enterSafe_of_not_pending {s : State} {p : Posture} {req : Option Nat} {top : EndOutcome} (hlive : s.sup.op.isLive = true)
    (htop : ∀ e ∈ s.arbiter.stack.head?, endOutcome req true e = top) (hpending : s.sup.resetPending = false) :
    s.enterSafe p req = safeMade s p top := by
  rw [enterSafe_eq hlive htop, if_neg (by rw [hpending]; exact Bool.false_ne_true)]

end Sys2Proof.Machine
end

section
/-! ## Re-examination: what it answers (R90 to R92, R102) -/
namespace Sys2Proof.Machine

-- One proof after another: side by side they take more threads than the memory limit of the check allows.
set_option Elab.async false

theorem LinePushed.resetsAlike {q t : State} {c : Nat} (h : LinePushed q t c) : ResetsAlike q t := by
  obtain ⟨-, harbiter, -, -, -, hlink, ht⟩ := h
  have halike : LinkAlike q.link t.link := by
    rw [hlink]
    refine LinkAlike.trans ?_ (linkAlike_post _ _)
    split
    · exact linkAlike_post _ _
    · exact .refl _
  rw [ht]
  refine ⟨fun _ => rfl, rfl, rfl, fun _ => rfl, rfl, ?_, fun _ => rfl, rfl, rfl, rfl, rfl, halike⟩
  show ({ t.arbiter with pending := 0, stack := [], level := 0 } : Arbiter) = _
  rw [harbiter]
  rfl

theorem LinePushed.sup {q t : State} {c : Nat} (h : LinePushed q t c) : t.sup = q.sup := by
  obtain ⟨-, -, -, -, -, -, ht⟩ := h
  rw [ht]

/-- A taken line is the top entry: it is the one that may complete as SAFE is entered (R96). -/
theorem LinePushed.endOutcome_top {q t : State} {c : Nat} (h : LinePushed q t c) :
    ∀ e ∈ t.arbiter.stack.head?, endOutcome (some c) true e = if c ≤ 5 then .complete else .abandoned := by
  obtain ⟨-, harbiter, -⟩ := h
  rw [harbiter]
  rintro e ⟨rfl⟩
  by_cases hc : c ≤ 5
  · rw [if_pos hc]
    exact if_pos ⟨rfl, rfl, (lineHard_iff c).mpr hc⟩
  · rw [if_neg hc]
    exact if_neg fun ⟨_, _, hhard⟩ => hc ((lineHard_iff c).mp hhard)

theorem reexamine_of_pushed {q : State} {c : Nat} (hlive : q.sup.op.isLive = true) (hlen : q.arbiter.stack.length ≤ 4)
    (hc : IsCandidate q.arbiter c) (ht : Takeable q.arbiter c) (hnote : (q.arbiter.settings (lineSource c)).action ≠ .note)
    (hnone : (q.arbiter.settings (lineSource c)).action ≠ .none) : q.reexamine = takenLine q c := by
  unfold State.reexamine
  rw [reexamineN_of_takeable hlive hc ht, take_of_pushed hnote, if_neg hnone]
  exact reexamineN_of_none_takeable fun d hd => not_takeable_of_pushed hc (linePushed_takenLine hlen) hd

theorem getLsbD_zeros (n : Nat) : (0 : BitVec 32).getLsbD n = false := by simp

theorem reexamine_of_note {q : State} {c : Nat} (hlive : q.sup.op.isLive = true)
    (hc : IsCandidate q.arbiter c) (ht : Takeable q.arbiter c) (hnote : (q.arbiter.settings (lineSource c)).action = .note)
    (halone : ∀ n, q.arbiter.pending.getLsbD n = true → n = c) :
    q.reexamine = { q with
      arbiter := { q.arbiter with pending := 0 }
      link := (q.link.post (newAlert .reflexTaken (.line c) .none q.ring.tag 0)).post
        (newAlert .reflexDone (.line c) (.outcome .complete) q.ring.tag 0) } := by
  have hempty : q.arbiter.pending &&& ~~~(BitVec.twoPow 32 c) = 0 := by
    refine BitVec.eq_of_getLsbD_eq fun n _ => ?_
    rw [isPending_clear, getLsbD_zeros]
    by_cases hp : q.arbiter.pending.getLsbD n = true
    · rw [halone n hp]; simp
    · rw [Bool.not_eq_true] at hp
      rw [hp, Bool.false_and]
  unfold State.reexamine
  rw [reexamineN_of_takeable hlive hc ht]
  unfold State.take
  rw [if_pos hnote, hempty]
  refine reexamineN_of_none_takeable fun d ⟨_, hd, _⟩ => ?_
  exact absurd ((getLsbD_zeros d).symm.trans hd) nofun

theorem reexamine_of_safe {q : State} {c : Nat} (hlive : q.sup.op.isLive = true) (hlen : q.arbiter.stack.length ≤ 4)
    (hc : IsCandidate q.arbiter c) (ht : Takeable q.arbiter c) (hnone : (q.arbiter.settings (lineSource c)).action = .none) :
    q.reexamine = (takenLine q c).enterSafe .freeze (some c) := by
  have hpushed : LinePushed q (takenLine q c) c := linePushed_takenLine hlen
  have hlive' : (takenLine q c).sup.op.isLive = true := by rw [hpushed.sup]; exact hlive
  unfold State.reexamine
  rw [reexamineN_of_takeable hlive hc ht, take_of_pushed (by rw [hnone]; exact nofun), if_pos hnone]
  refine reexamineN_of_not_live ?_
  rw [enterSafe_eq hlive' hpushed.endOutcome_top]
  split
  · rw [(applyReset_sup _).1]; rfl
  · rfl

/-- SAFE entered with FREEZE posture upon a taken RING-LOSS (R102), and a reset that is then applied (R159). -/
theorem safe_of_pushed {q p : State} {c : Nat} (hlive : q.sup.op.isLive = true) (h : LinePushed q p c) :
    let t := p.enterSafe .freeze (some c)
    let entered := SafeAlerts p p.link (if c ≤ 5 then .complete else .abandoned) .freeze
    (q.sup.resetPending = false →
      t.sup = { q.sup with op := .safe, posture := some .freeze }
      ∧ t.arbiter = { q.arbiter with pending := 0, stack := [], level := 0 } ∧ t.link = entered)
    ∧ (q.sup.resetPending = true → SoftResetLeaves q t ∧ t.link = ResetAlerts entered q.ring.tag .safe []) := by
  have hsup := h.sup
  have hlive' : p.sup.op.isLive = true := by rw [hsup]; exact hlive
  have hring : p.ring = q.ring := h.resetsAlike.ring
  have harbiter : p.softReset.arbiter = q.softReset.arbiter := h.resetsAlike.arbiter
  constructor
  · intro hpending
    rw [enterSafe_of_not_pending hlive' h.endOutcome_top (by rw [hsup]; exact hpending)]
    refine ⟨?_, harbiter, rfl⟩
    show ({ p.sup with op := .safe, posture := some .freeze } : Supervisor) = _
    rw [hsup]
  · intro hpending
    rw [← hring]
    exact enterSafe_of_pending hlive' h.endOutcome_top (by rw [hsup]; exact hpending) h.resetsAlike

/-- What the arbiter's re-examination answers, in the statement's words. -/
theorem reexamined_reexamine (q : State) : Reexamined q (.next q.reexamine) := by
  refine ⟨?_, fun c hlive hlen hc ht => ⟨fun hnote hnone => ?_, fun hnote halone => ?_, fun hnone => ?_⟩⟩
  · rintro (hrest | hnone)
    · exact congrArg _ (reexamineN_of_not_live hrest)
    · exact congrArg _ (reexamineN_of_none_takeable hnone)
  · exact ⟨_, congrArg _ (reexamine_of_pushed hlive hlen hc ht hnote hnone), linePushed_takenLine hlen⟩
  · exact congrArg _ (reexamine_of_note hlive hc ht hnote halone)
  · exact ⟨_, _, linePushed_takenLine hlen, congrArg _ (reexamine_of_safe hlive hlen hc ht hnone),
      safe_of_pushed hlive (linePushed_takenLine hlen)⟩

/-! ### Raises (R87) -/

theorem exec_raise {s : State} {r : Raise} {rest : List Raise} (h : s.wires.raises = r :: rest) :
    exec (.raise r.line) s = .next (({ s with wires := { s.wires with raises := rest } } : State).takeRaise r) := by
  show execRaise r.line s = _
  have hpick : pickRaise r.line s.wires.raises = some (r, rest) := by rw [h]; exact if_pos rfl
  unfold execRaise
  rw [hpick]

theorem takeRaise_eq (s : State) (r : Raise) :
    s.takeRaise r = if s.disposition r.line = .pended then
      ({ s with
        arbiter := { s.arbiter with pending := s.arbiter.pending ||| BitVec.twoPow 32 r.line }
        link := s.link.post (newAlert .detected (.line r.line) (.disposition .pended) r.tag r.value) } : State).reexamine
    else { s with link := s.link.post (newAlert .detected (.line r.line) (.disposition (s.disposition r.line)) r.tag r.value) } := by
  unfold State.takeRaise
  dsimp only
  split
  · next h => rw [h]; rfl
  · rfl

theorem holds_iff (a : Arbiter) (n : Nat) : a.holds n = true ↔ ∃ e ∈ a.stack, e.line = n := by
  simp [Arbiter.holds]

theorem not_lineHard {n : Nat} (h : 6 ≤ n) : lineHard n = false := by
  rw [Bool.eq_false_iff, Ne, lineHard_iff]; omega

theorem exec_raise_of_not_pended {s : State} {r : Raise} {rest : List Raise} {d : Disposition} (h : s.wires.raises = r :: rest)
    (hd : s.disposition r.line = d) (hne : d ≠ .pended) :
    exec (.raise r.line) s = .next { s with
      wires := { s.wires with raises := rest }
      link := s.link.post (newAlert .detected (.line r.line) (.disposition d) r.tag r.value) } := by
  have hd' : ({ s with wires := { s.wires with raises := rest } } : State).disposition r.line = d := hd
  rw [exec_raise h, takeRaise_eq, if_neg (by rw [hd']; exact hne), hd']

/-- The dispositions of R87 in their order. -/
theorem disposition_ignored {s : State} (n : Nat) (hlive : s.sup.op.isLive = false) : s.disposition n = .ignored := by
  unfold State.disposition; rw [hlive]; rfl

theorem disposition_of_live {s : State} (n : Nat) (hlive : s.sup.op.isLive = true) :
    s.disposition n = if s.arbiter.holds n then .coalesced
      else if !lineHard n && !(s.arbiter.settings (lineSource n)).enabled then .disabled
      else if !lineHard n && s.arbiter.priority n ≤ 6 && 0 < s.engine.holdOff then .held
      else .pended := by
  unfold State.disposition; rw [hlive]; rfl

/-- Settles O32. -/
theorem raiseNotPendedOnlyAlerts : Obligations.RaiseNotPendedOnlyAlerts := by
  intro s r rest h
  have hfree (hon : ¬∃ e ∈ s.arbiter.stack, e.line = r.line) : ¬s.arbiter.holds r.line = true := by
    rw [holds_iff]; exact hon
  refine ⟨fun hrest => ?_, fun hlive hon => ?_, fun hlive hon hsoft hoff => ?_, fun hlive hon hsoft hon' hprio hhold => ?_⟩
  · refine exec_raise_of_not_pended h (disposition_ignored _ ?_) nofun
    obtain hop | hop := hrest <;> rw [hop] <;> rfl
  · refine exec_raise_of_not_pended h ?_ nofun
    rw [disposition_of_live _ hlive, if_pos ((holds_iff ..).mpr hon)]
  · refine exec_raise_of_not_pended h ?_ nofun
    rw [disposition_of_live _ hlive, if_neg (hfree hon), not_lineHard hsoft, hoff]
    rfl
  · refine exec_raise_of_not_pended h ?_ nofun
    have hle : s.arbiter.priority r.line ≤ 6 := hprio
    rw [disposition_of_live _ hlive, if_neg (hfree hon), not_lineHard hsoft, hon', decide_eq_true hle, decide_eq_true hhold]
    rfl

/-- The state in which a pended raise has joined the pending set, before the re-examination. -/
def pendedRaise (s : State) (r : Raise) (rest : List Raise) : State :=
  { s with
    wires := { s.wires with raises := rest }
    arbiter := { s.arbiter with pending := s.arbiter.pending ||| BitVec.twoPow 32 r.line }
    link := s.link.post (newAlert .detected (.line r.line) (.disposition .pended) r.tag r.value) }

theorem exec_raise_of_pended {s : State} {r : Raise} {rest : List Raise} (h : s.wires.raises = r :: rest)
    (hd : s.disposition r.line = .pended) :
    exec (.raise r.line) s = .next (pendedRaise s r rest).reexamine := by
  have hd' : ({ s with wires := { s.wires with raises := rest } } : State).disposition r.line = .pended := hd
  rw [exec_raise h, takeRaise_eq, if_pos hd']
  rfl

theorem disposition_pended {s : State} {n : Nat} (hlive : s.sup.op.isLive = true) (hfree : ∀ e ∈ s.arbiter.stack, e.line ≠ n)
    (hgo : n ≤ 5 ∨ ((s.arbiter.settings (lineSource n)).enabled = true
      ∧ (7 ≤ (s.arbiter.settings (lineSource n)).priority ∨ s.engine.holdOff = 0))) : s.disposition n = .pended := by
  have hnot : ¬s.arbiter.holds n = true := by
    rw [holds_iff]; exact fun ⟨e, he, hline⟩ => hfree e he hline
  rw [disposition_of_live _ hlive, if_neg hnot]
  obtain hhard | ⟨hon, hprio⟩ := hgo
  · rw [(lineHard_iff n).mpr hhard]; rfl
  · rw [hon]
    have hheld : ¬(s.arbiter.priority n ≤ 6 ∧ 0 < s.engine.holdOff) := by
      unfold Arbiter.priority; omega
    simp only [Bool.not_true, Bool.and_false, Bool.false_eq_true, if_false, Bool.and_eq_true, decide_eq_true_eq]
    exact if_neg fun ⟨⟨_, h1⟩, h2⟩ => hheld ⟨h1, h2⟩

/-- Settles O33. -/
theorem raisePushesEntry : Obligations.RaisePushesEntry := by
  intro s r rest h _ c hlive hfree hgo
  rw [exec_raise_of_pended h (disposition_pended hlive hfree hgo)]
  exact reexamined_reexamine _

/-- A line that joins an empty pending set is the candidate. -/
theorem isCandidate_alone {a : Arbiter} {n : Nat} (hn : n < 32) (hpending : a.pending = 0) :
    IsCandidate { a with pending := a.pending ||| BitVec.twoPow 32 n } n := by
  have hbit (m : Nat) : (a.pending ||| BitVec.twoPow 32 n).getLsbD m = decide (m = n) := by
    rw [isPending_set, hpending, getLsbD_zeros, decide_eq_true hn]; rfl
  refine ⟨hn, ?_, fun m _ hm => .inr ?_⟩
  · show (a.pending ||| BitVec.twoPow 32 n).getLsbD n = true
    rw [hbit, decide_eq_true rfl]
  · have hmn : m = n := of_decide_eq_true ((hbit m).symm.trans hm)
    rw [hmn]
    exact ⟨rfl, Nat.le_refl _⟩

theorem raise_of_note {s : State} {r : Raise} {rest : List Raise} (h : s.wires.raises = r :: rest)
    (hline : r.line < 32) (hlive : s.sup.op.isLive = true) (hfree : ∀ e ∈ s.arbiter.stack, e.line ≠ r.line)
    (hpending : s.arbiter.pending = 0) (hon : (s.arbiter.settings (lineSource r.line)).enabled = true)
    (hhold : s.engine.holdOff = 0) (hlevel : s.arbiter.level < (s.arbiter.settings (lineSource r.line)).priority)
    (hnest : s.arbiter.nesting = true ∨ s.arbiter.stack = [])
    (hnote : (s.arbiter.settings (lineSource r.line)).action = .note) :
    exec (.raise r.line) s = .next { s with
      wires := { s.wires with raises := rest }
      link := ((s.link.post (newAlert .detected (.line r.line) (.disposition .pended) r.tag r.value)).post
          (newAlert .reflexTaken (.line r.line) .none s.ring.tag 0)).post
          (newAlert .reflexDone (.line r.line) (.outcome .complete) s.ring.tag 0) } := by
  have htake : Takeable (pendedRaise s r rest).arbiter r.line := by
    have hprio : s.arbiter.level < LinePriority s.arbiter r.line := by rw [linePriority_eq]; exact hlevel
    cases hn : s.arbiter.nesting with
    | true => exact .inl ⟨hn, hprio⟩
    | false =>
      obtain hn' | hempty := hnest
      · rw [hn] at hn'; cases hn'
      · exact .inr ⟨hn, .inl hempty⟩
  have halone (n : Nat) (hn : (s.arbiter.pending ||| BitVec.twoPow 32 r.line).getLsbD n = true) : n = r.line := by
    rw [isPending_set, hpending, getLsbD_zeros, Bool.false_or, Bool.and_eq_true] at hn
    exact of_decide_eq_true hn.2
  rw [exec_raise_of_pended h (disposition_pended hlive hfree (.inr ⟨hon, .inr hhold⟩)),
    reexamine_of_note (q := pendedRaise s r rest) hlive (isCandidate_alone hline hpending) htake hnote halone]
  unfold pendedRaise
  dsimp only
  rw [← hpending]

theorem raise_of_ringLoss {s : State} {r : Raise} {rest : List Raise} (h : s.wires.raises = r :: rest) (hline : r.line = 5)
    (hlaw : ArbiterLaw s) (hlive : s.sup.op.isLive = true) (hfree : ∀ e ∈ s.arbiter.stack, e.line ≠ 5)
    (hpending : s.arbiter.pending = 0) (hlevel : s.arbiter.level < 8) :
    ∃ t, exec (.raise 5) s = .next t
      ∧ (s.sup.resetPending = true → SoftResetLeaves s t)
      ∧ (s.sup.resetPending = false →
          t.sup = { s.sup with op := .safe, posture := some .freeze }
          ∧ t.arbiter = { s.arbiter with stack := [], pending := 0, level := 0 }
          ∧ t.engine = { s.engine with rate := 0, holdOff := 0, pendingGait := none }
          ∧ t.unit.weight = 0 ∧ t.unit.finished = .clear
          ∧ t.shaper = s.shaper ∧ t.ring = s.ring ∧ t.banks = s.banks ∧ t.gaits = s.gaits ∧ t.limits = s.limits) := by
  have ⟨hlen, _⟩ := hlaw
  have hexec := exec_raise_of_pended h (disposition_pended hlive (by rw [hline]; exact hfree) (.inl (by rw [hline])))
  have hcandidate : IsCandidate (pendedRaise s r rest).arbiter 5 := by
    have hnow := isCandidate_alone (n := r.line) (by rw [hline]; decide) hpending
    rw [hline] at hnow
    unfold pendedRaise
    rw [hline]
    exact hnow
  rw [hline] at hexec
  generalize hq : pendedRaise s r rest = q at hexec hcandidate
  have hlive : q.sup.op.isLive = true := by rw [← hq]; exact hlive
  have hlen : q.arbiter.stack.length ≤ 4 := by rw [← hq]; exact hlen
  have htake : Takeable q.arbiter 5 := by
    have hlevel : q.arbiter.level < 8 := by rw [← hq]; exact hlevel
    cases hn : q.arbiter.nesting with
    | true => exact .inl ⟨hn, hlevel⟩
    | false => exact .inr ⟨hn, .inr ⟨Nat.le_refl 5, hlevel⟩⟩
  have hpushed : LinePushed q (takenLine q 5) 5 := linePushed_takenLine hlen
  have hsafe := safe_of_pushed hlive hpushed
  have halike : ResetsAlike s q := by
    rw [← hq]
    exact ⟨fun _ => rfl, rfl, rfl, fun _ => rfl, rfl, rfl, fun _ => rfl, rfl, rfl, rfl, rfl, linkAlike_post _ _⟩
  have hlive' : (takenLine q 5).sup.op.isLive = true := by rw [hpushed.sup]; exact hlive
  obtain ⟨-, -, -, -, -, -, ht⟩ := id hpushed
  have hpend : q.sup.resetPending = s.sup.resetPending := by rw [← hq]; rfl
  rw [reexamine_of_safe hlive hlen hcandidate htake rfl] at hexec
  refine ⟨_, hexec, fun hp => ?_, fun hp => ?_⟩ <;> rw [← hpend] at hp
  · rw [enterSafe_eq hlive' hpushed.endOutcome_top, if_pos (by rw [hpushed.sup]; exact hp)]
    exact softResetLeaves_applyReset ((halike.trans hpushed.resetsAlike).trans (resetsAlike_safeMade ..))
  · obtain ⟨hsup, harbiter, -⟩ := hsafe.1 hp
    rw [enterSafe_of_not_pending hlive' hpushed.endOutcome_top (by rw [hpushed.sup]; exact hp)] at hsup harbiter ⊢
    rw [hsup, harbiter, ht, ← hq]
    exact ⟨rfl, by rw [← hpending]; rfl, rfl, rfl, rfl, rfl, rfl, rfl, rfl, rfl⟩

/-- Settles O34. -/
theorem raiseOfNoteAndRingLoss : Obligations.RaiseOfNoteAndRingLoss :=
  ⟨fun _ _ _ h _ hline hlive hfree hpending hon hhold hlevel hnest hnote =>
    raise_of_note h hline hlive hfree hpending hon hhold hlevel hnest hnote,
   fun _ _ _ h hline hlaw hlive hfree hpending hlevel => raise_of_ringLoss h hline hlaw hlive hfree hpending hlevel⟩

/-! ### The pop (R95) -/

/-- The state that is re-examined when the top entry has left and what is below it has resumed. -/
def poppedTop (s : State) (o : EndOutcome) (e : Entry) (below : List Entry) : State :=
  ((topGone s e below).alertDone o e).resumeTop

theorem resumeTop_nil {s : State} (h : s.arbiter.stack = []) : s.resumeTop = s := by
  unfold State.resumeTop; rw [h]

theorem resumeTop_cons {s : State} {e : Entry} {below : List Entry} (h : s.arbiter.stack = e :: below) :
    s.resumeTop = s.resumeAction e := by
  unfold State.resumeTop; rw [h]

theorem entryPopped_poppedTop (s : State) (o : EndOutcome) (e : Entry) (below : List Entry) :
    EntryPopped s (poppedTop s o e below) o e below := by
  unfold poppedTop
  cases below with
  | nil =>
    rw [resumeTop_nil rfl]
    exact ⟨rfl, rfl, fun l => settle_get _ e l, rfl, rfl, rfl⟩
  | cons b rest =>
    rw [resumeTop_cons rfl, resumeAction_eq b rfl]
    refine ⟨rfl, rfl, fun l => settle_get _ e l, rfl, rfl, ?_⟩
    simp only [List.head?_cons, Option.map_some, Option.some.injEq]
    rfl

/-- Settles O37. -/
theorem popRemovesFinishedTop : Obligations.PopRemovesFinishedTop := by
  intro s o e below hfinished hstack
  refine ⟨poppedTop s o e below, entryPopped_poppedTop s o e below, ?_⟩
  have hexec : exec .pop s = .next (poppedTop s o e below).reexamine := by
    show execPop s = _
    unfold execPop
    rw [hfinished]
    exact congrArg _ (popTop_cons o hstack)
  rw [hexec]
  exact reexamined_reexamine _

end Sys2Proof.Machine
end

section
/-! ## A reply and the arbiter's settings (R74, R83, R98, R99, R179) -/
namespace Sys2Proof.Machine

-- One proof after another: side by side they take more threads than the memory limit of the check allows.
set_option Elab.async false

/-! ### A reply commutes with what the arbiter does -/

/-- The link with the frame in progress answered (R167). -/
def repliedLink (f : CmdFrame) (code : ReplyCode) (data : List Byte) (k : Link) : Link :=
  { k with
    busy := none, reserved := false
    replies := if k.reserved then k.replies ++ [{ command := f.code, tag := f.tag, code := code, data := data }] else k.replies }

theorem reply_eq (s : State) (f : CmdFrame) (code : ReplyCode) (data : List Byte) :
    s.reply f code data = { s with link := repliedLink f code data s.link } := rfl

section
variable (f : CmdFrame) (code : ReplyCode) (data : List Byte)

theorem repliedLink_post (k : Link) (a : AlertEntry) :
    repliedLink f code data (k.post a) = (repliedLink f code data k).post a := by
  unfold Link.post repliedLink
  dsimp only
  split
  · rfl
  · split <;> rfl

theorem repliedLink_foldl (g : Entry → AlertEntry) (l : List Entry) (k : Link) :
    repliedLink f code data (l.foldl (fun k e => k.post (g e)) k) = l.foldl (fun k e => k.post (g e)) (repliedLink f code data k) := by
  induction l generalizing k with
  | nil => rfl
  | cons e l ih => rw [List.foldl_cons, List.foldl_cons, ih, repliedLink_post]

theorem repliedLink_resetAlerts (k : Link) (tag : Byte) (left : OpState) (stack : List Entry) :
    repliedLink f code data (ResetAlerts k tag left stack) = ResetAlerts (repliedLink f code data k) tag left stack := by
  have hcount (k : Link) : repliedLink f code data { k with statusCount := 0 } = { repliedLink f code data k with statusCount := 0 } :=
    rfl
  unfold ResetAlerts
  dsimp only
  rw [hcount, repliedLink_post]
  split
  · rw [repliedLink_foldl]
  · rw [repliedLink_post, repliedLink_foldl]

theorem repliedLink_safeAlerts (s : State) (k : Link) (top : EndOutcome) (p : Posture) :
    repliedLink f code data (SafeAlerts s k top p) = SafeAlerts s (repliedLink f code data k) top p := by
  unfold SafeAlerts
  dsimp only
  cases s.balance.relevel <;> cases s.arbiter.stack <;>
    simp only [repliedLink_post, repliedLink_foldl]

theorem LinePushed.reply {q t : State} {c : Nat} (h : LinePushed q t c) :
    LinePushed (q.reply f code data) (t.reply f code data) c := by
  obtain ⟨hpending, harbiter, hhold, hweight, hfinished, hlink, ht⟩ := h
  refine ⟨hpending, harbiter, hhold, hweight, ?_, ?_, ?_⟩
  · exact hfinished
  · show repliedLink f code data t.link = _
    rw [hlink, repliedLink_post, State.reply_arbiter]
    cases q.arbiter.stack[3]? with
    | none => rfl
    | some b => dsimp only; rw [repliedLink_post]; rfl
  · rw [reply_eq, ht]; rfl

theorem SoftResetLeaves.reply {q t : State} (h : SoftResetLeaves q t) :
    SoftResetLeaves (q.reply f code data) (t.reply f code data) := h

/-- A reply after the re-examination is one before it. -/
theorem Reexamined.reply {q t : State} (h : Reexamined q (.next t)) :
    Reexamined (q.reply f code data) (.next (t.reply f code data)) := by
  obtain ⟨hnone, htaken⟩ := h
  refine ⟨fun hq => ?_, fun c hlive hlen hc hto => ?_⟩
  · rw [Host.Outcome.next.inj (hnone hq)]
  · obtain ⟨hpush, hnote, hsafe⟩ := htaken c hlive hlen hc hto
    refine ⟨fun h1 h2 => ?_, fun h1 h2 => ?_, fun h1 => ?_⟩
    · obtain ⟨t', ht, hp⟩ := hpush h1 h2
      obtain rfl := Host.Outcome.next.inj ht
      exact ⟨_, rfl, hp.reply f code data⟩
    · rw [Host.Outcome.next.inj (hnote h1 h2), reply_eq]
      dsimp only
      rw [repliedLink_post, repliedLink_post]
      rfl
    · obtain ⟨p, t', hp, ht, hrest, hreset⟩ := hsafe h1
      obtain rfl := Host.Outcome.next.inj ht
      refine ⟨_, _, hp.reply f code data, rfl, fun h => ?_, fun h => ?_⟩
      · obtain ⟨hsup, harbiter, hlink⟩ := hrest h
        refine ⟨hsup, harbiter, ?_⟩
        show repliedLink f code data t.link = _
        rw [hlink, repliedLink_safeAlerts]
        rfl
      · obtain ⟨hleaves, hlink⟩ := hreset h
        refine ⟨hleaves.reply f code data, ?_⟩
        show repliedLink f code data t.link = _
        rw [hlink, repliedLink_resetAlerts, repliedLink_safeAlerts]
        rfl

end

/-! ### The arbiter's settings and the others that every state accepts (R74, R83, R98, R99, R179) -/

theorem sourceLines_getLsbD (src : Source) {n : Nat} (hn : n < 32) :
    (sourceLines src).getLsbD n = decide (lineSource n = src) := by
  have hfold : ∀ (l : List Nat) (w : BitVec 32),
      (l.foldl (fun w n => if lineSource n = src then w ||| BitVec.twoPow 32 n else w) w).getLsbD n
        = (w.getLsbD n || decide (n ∈ l ∧ lineSource n = src)) := by
    intro l
    induction l with
    | nil => simp
    | cons m l ih =>
      intro w
      rw [List.foldl_cons, ih]
      by_cases hm : lineSource m = src
      · rw [if_pos hm, isPending_set]
        by_cases hnm : n = m
        · subst hnm; simp [hn, hm]
        · simp [hnm]
      · rw [if_neg hm]
        by_cases hnm : n = m
        · subst hnm; simp [hm]
        · simp [hnm]
  unfold sourceLines
  rw [hfold, getLsbD_zeros]
  simp [hn]

theorem pending_setSource (s : State) (src : Source) (x : SourceSettings) (n : Nat) :
    (s.setSource src x).arbiter.pending.getLsbD n
      = (s.arbiter.pending.getLsbD n && (x.enabled || decide (lineSource n ≠ src))) := by
  show (if x.enabled then s.arbiter.pending else s.arbiter.pending &&& ~~~(sourceLines src)).getLsbD n = _
  by_cases hn : n < 32
  · cases x.enabled with
    | true => simp
    | false =>
      show (s.arbiter.pending &&& ~~~(sourceLines src)).getLsbD n = _
      rw [BitVec.getLsbD_and, BitVec.getLsbD_not, sourceLines_getLsbD src hn, decide_eq_true hn, decide_not]
      rfl
  · rw [BitVec.getLsbD_of_ge _ n (by omega), BitVec.getLsbD_of_ge _ n (by omega), Bool.false_and]

theorem flagArg_eq (a : List Byte) (i : Nat) : flagArg a i = if u8 a i ≤ 1 then some (u8 a i == 1) else none := by
  unfold flagArg
  generalize u8 a i = n
  match n with
  | 0 => rfl
  | 1 => rfl
  | n + 2 => exact (if_neg (by omega)).symm

theorem actionArg_some {n : Nat} {act : Action} (h : actionArg n = some act) :
    n ≤ 4 ∧ (act = .retract ↔ n = 1) ∧ (act = .plant ↔ n = 2) := by
  match n with
  | 0 | 1 | 2 | 3 | 4 => cases h; decide
  | n + 5 => cases h

theorem sourceArg_none {n : Nat} (h : 7 < n) : sourceArg n = none := by
  match n with
  | 0 | 1 | 2 | 3 | 4 | 5 | 6 | 7 => omega
  | n + 8 => rfl

theorem sourceArg_lt {n : Nat} {src : Source} (h : sourceArg n = some src) : n < 8 := by
  by_contra hn
  rw [sourceArg_none (by omega)] at h
  cases h

/-- What SET-REFLEX accepts for a source, in the statement's words (R83). -/
abbrev ReflexFits (src : Source) (a : List Byte) : Prop :=
  u8 a 1 ≤ 1 ∧ (1 ≤ u8 a 2 ∧ u8 a 2 ≤ 7) ∧ u8 a 3 ≤ 4 ∧ (1 ≤ u16 a 4 ∧ u16 a 4 ≤ 4095) ∧ u16 a 6 ≤ 1023
    ∧ ¬((src = .tilt ∨ src = .linkLoss) ∧ (u8 a 3 = 1 ∨ u8 a 3 = 2))

theorem reflexArg_none {src : Source} {a : List Byte} (h : ¬ReflexFits src a) : reflexArg src a = none := by
  unfold reflexArg
  rw [flagArg_eq]
  by_cases hflag : u8 a 1 ≤ 1
  · rw [if_pos hflag]
    cases hact : actionArg (u8 a 3) with
    | none => rfl
    | some act =>
      obtain ⟨h4, hretract, hplant⟩ := actionArg_some hact
      refine if_neg fun hok => h ?_
      simp only [inRangeN, Bool.and_eq_true, Bool.not_eq_true', Bool.and_eq_false_iff, Bool.or_eq_false_iff, decide_eq_true_eq,
        beq_eq_false_iff_ne, ne_eq, hretract, hplant] at hok
      obtain ⟨⟨⟨hprio, hduration⟩, hparameter⟩, hleg⟩ := hok
      exact ⟨hflag, hprio, h4, hduration, hparameter, fun ⟨hs, ha⟩ => 
        hleg.elim (fun ⟨h1, h2⟩ => hs.elim h1 h2) fun ⟨h1, h2⟩ => ha.elim h1 h2⟩
  · rw [if_neg hflag]

theorem reflexArg_some {src : Source} {a : List Byte} {act : Action} (h : ReflexFits src a) (hact : actionArg (u8 a 3) = some act) :
    reflexArg src a = some { enabled := u8 a 1 == 1, priority := u8 a 2, action := act, duration := u16 a 4
                             parameter := u16 a 6 } := by
  obtain ⟨-, hretract, hplant⟩ := actionArg_some hact
  obtain ⟨hflag, hprio, -, hduration, hparameter, hleg⟩ := h
  unfold reflexArg
  rw [flagArg_eq, if_pos hflag, hact]
  refine if_pos ?_
  simp only [inRangeN, Bool.and_eq_true, Bool.not_eq_true', Bool.and_eq_false_iff, Bool.or_eq_false_iff, decide_eq_true_eq,
    beq_eq_false_iff_ne, ne_eq, hretract, hplant]
  exact ⟨⟨⟨hprio, hduration⟩, hparameter⟩, by simpa only [not_and_or, not_or] using hleg⟩

theorem exec_setReflex {s : State} {f : CmdFrame} (h : s.busyWith .setReflex f) :
    exec .setReflex s = .next (if u8 f.args 0 = 8 then
        s.checked f [(!inRangeN (u16 f.args 1) 20 4095, .range)]
          ({ s with arbiter := { s.arbiter with fallCrouch := u16 f.args 1 } } : State).reexamine
      else (sourceArg (u8 f.args 0)).elim (s.refuse f .range) fun src =>
        (reflexArg src f.args).elim (s.refuse f .range) fun x => (s.setSource src x).reexamine.reply f .done []) := by
  show execSetReflex s = _
  unfold execSetReflex
  rw [completing_of_busy h]
  dsimp only
  congr 1
  split
  · rfl
  · cases sourceArg (u8 f.args 0) with
    | none => rfl
    | some src =>
      rw [Option.elim_some]
      dsimp only
      cases reflexArg src f.args <;> rfl

theorem setReflex_source {s : State} {f : CmdFrame} {src : Source} (h : s.busyWith .setReflex f)
    (hsrc : sourceArg (u8 f.args 0) = some src) :
    (¬ReflexFits src f.args → exec .setReflex s = .next (s.refuse f .range))
    ∧ ∀ act, ReflexFits src f.args → actionArg (u8 f.args 3) = some act →
      ∃ p : BitVec 32,
        (∀ n, p.getLsbD n = (s.arbiter.pending.getLsbD n && (u8 f.args 1 == 1 || decide (lineSource n ≠ src))))
        ∧ Reexamined (({ s with arbiter := { s.arbiter with
            pending := p
            sources := s.arbiter.sources.set src
              { enabled := u8 f.args 1 == 1, priority := u8 f.args 2, action := act, duration := u16 f.args 4
                parameter := u16 f.args 6 } } } : State).reply f .done [])
          (exec .setReflex s) := by
  have hne : u8 f.args 0 ≠ 8 := by have := sourceArg_lt hsrc; omega
  have hexec := exec_setReflex h
  rw [if_neg hne, hsrc] at hexec
  refine ⟨fun hno => ?_, fun act hfits hact => ?_⟩
  · rw [hexec, Option.elim_some, reflexArg_none hno]
    rfl
  · rw [hexec, Option.elim_some, reflexArg_some hfits hact]
    exact ⟨_, fun n => pending_setSource s src _ n, (reexamined_reexamine _).reply f .done []⟩

theorem bandNumber_of_lt {n : Nat} (h : n < 4) : bandNumber n = some ⟨n, h⟩ := dif_pos h

theorem gains_good_iff (g : Gains) :
    g.good = true ↔ (-4096 ≤ g.kpPitch ∧ g.kpPitch ≤ 4095) ∧ (-4096 ≤ g.kdPitch ∧ g.kdPitch ≤ 4095)
      ∧ (-4096 ≤ g.kpRoll ∧ g.kpRoll ≤ 4095) ∧ (-4096 ≤ g.kdRoll ∧ g.kdRoll ≤ 4095) ∧ g.authority ≤ 1023 := by
  simp only [Gains.good, inRange, Bool.and_eq_true, decide_eq_true_eq, and_assoc]

theorem PerJoint.all_toList_iff {α : Type} (x : PerJoint α) (p : α → Bool) :
    x.toList.all p = true ↔ ∀ j, p (x.get j) = true := by
  rw [List.all_eq_true]
  exact ⟨fun h j => h _ (PerJoint.get_mem_toList x j), fun h a ha => by
    simp only [PerJoint.toList, List.mem_cons, List.not_mem_nil, or_false] at ha
    obtain rfl | rfl | rfl := ha
    · exact h .ab
    · exact h .hf
    · exact h .kn⟩

theorem setGains_range {s : State} {f : CmdFrame} (h : s.busyWith .setGains f) :
    let g : PerJoint Gains := ⟨gainsArg f.args 0, gainsArg f.args 1, gainsArg f.args 2⟩
    (¬(u8 f.args 0 ≤ 3 ∧ g.toList.all Gains.good = true) → exec .setGains s = .next (s.refuse f .range))
    ∧ ∀ n : Fin 4, u8 f.args 0 = n.val → g.toList.all Gains.good = true →
      exec .setGains s
        = .next (({ s with balance := { s.balance with bands := s.balance.bands.set n g } } : State).reply f .done []) := by
  have hexec : exec .setGains s = _ := completing_of_busy h _
  dsimp only at hexec
  refine ⟨fun hno => ?_, fun n hn hgood => ?_⟩
  · rw [hexec]
    by_cases hlt : u8 f.args 0 < 4
    · have hbad : ¬(PerJoint.toList ⟨gainsArg f.args 0, gainsArg f.args 1, gainsArg f.args 2⟩).all Gains.good = true :=
        fun hg => hno ⟨by omega, hg⟩
      rw [bandNumber_of_lt hlt]
      dsimp only
      rw [checked_cons, if_pos (by rw [Bool.eq_false_iff.mpr hbad]; rfl)]
    · rw [show bandNumber (u8 f.args 0) = none from dif_neg hlt]
  · rw [hexec, hn, bandNumber_of_lt n.isLt]
    dsimp only
    rw [checked_cons, hgood]
    rfl

theorem pending_hardLines (p : BitVec 32) (n : Nat) : (p &&& hardLines).getLsbD n = (p.getLsbD n && decide (n ≤ 5)) := by
  have hbits : ∀ n < 32, hardLines.getLsbD n = decide (n ≤ 5) := by decide
  rw [BitVec.getLsbD_and]
  by_cases hn : n < 32
  · rw [hbits n hn]
  · rw [BitVec.getLsbD_of_ge p n (by omega), Bool.false_and, Bool.false_and]

/-- Settles O57. -/
theorem settingsOfEveryState : Obligations.SettingsOfEveryState := by
  intro s f
  refine ⟨fun h => ?_, fun h => ⟨fun hbad => ?_, fun hok => ?_⟩, fun h => ⟨fun hbad => ?_, fun hok => ?_⟩,
    fun h height => ⟨fun hbad => ?_, fun hlo hhi => ?_⟩, fun h hbeyond => ?_, fun src h hsrc => setReflex_source h hsrc,
    fun h => ?_⟩
  · have hfits (g : PerJoint Gains) := (PerJoint.all_toList_iff g Gains.good).trans
      (forall_congr' fun j => gains_good_iff (g.get j))
    obtain ⟨hrange, haccept⟩ := setGains_range h
    exact ⟨fun hno => hrange fun ⟨hn, hg⟩ => hno ⟨hn, (hfits _).mp hg⟩, fun n hyes hn => haccept n hn ((hfits _).mpr hyes.2)⟩
  · refine (completing_of_busy h _).trans ?_
    rw [checked_cons, if_pos (decide_eq_true hbad)]
  · refine (completing_of_busy h _).trans ?_
    rw [checked_cons, if_neg (by simpa using hok)]
    rfl
  · refine (completing_of_busy h _).trans ?_
    rw [flagArg_eq, if_neg (by omega)]
  · have hexec : exec .setArbiter s = _ := completing_of_busy h _
    rw [flagArg_eq, if_pos hok] at hexec
    rw [hexec]
    exact (reexamined_reexamine _).reply f .done []
  · rw [exec_setReflex h, if_pos height, checked_cons,
      if_pos (by simp only [inRangeN, Bool.not_eq_true', Bool.and_eq_false_iff, decide_eq_false_iff_not]; omega)]
  · rw [exec_setReflex h, if_pos height, checked_cons,
      if_neg (by simp only [inRangeN, Bool.not_eq_true', Bool.and_eq_false_iff, decide_eq_false_iff_not]; omega)]
    exact (reexamined_reexamine _).reply f .done []
  · rw [exec_setReflex h, if_neg (by omega), sourceArg_none (by omega)]
    rfl
  · exact ⟨_, fun n => pending_hardLines _ n, completing_of_busy h _⟩

end Sys2Proof.Machine
end

section
/-! ## STOPPING, STANDING and SAFE in the statements' terms (R36, R40, R149 to R151, R158 to R160) -/
namespace Sys2Proof.Machine

-- One proof after another: side by side they take more threads than the memory limit of the check allows.
set_option Elab.async false

/-! ### Slots parked afresh (R20, R54) -/

/-- A leg's record after its slot has changed: the capture goes where the leg no longer plays the bank and offset it played (R54). -/
def movedRecord (slot : Slot) (c : LegContact) : Option (Member × Bool) → LegContact
  | some (m, _) => if slot.bank = m.bank ∧ slot.offset = m.offset then c else { c with capture := none }
  | none => { c with capture := none }

theorem movedRecord_some (slot : Slot) (c : LegContact) (m : Member) (mirror : Bool) :
    movedRecord slot c (some (m, mirror))
      = if slot.bank = m.bank ∧ slot.offset = m.offset then c else { c with capture := none } := rfl

theorem dropMovedCaptures_leg {s : State} {before : PerLeg Slot} (l : LegId)
    (hslot : ∀ m mirror, slotMember (s.gait s.engine.current) s.sup.modes l = some (m, mirror) →
      (s.engine.slots.get l).bank = m.bank ∧ (s.engine.slots.get l).offset = m.offset) :
    (s.dropMovedCaptures before).monitor.legs.get l
      = movedRecord (before.get l) (s.monitor.legs.get l) (slotMember (s.gait s.engine.current) s.sup.modes l) := by
  unfold State.dropMovedCaptures
  rw [State.mapContacts_legs]
  unfold State.playsOn State.playing
  cases hm : slotMember (s.gait s.engine.current) s.sup.modes l with
  | none => rfl
  | some p =>
    obtain ⟨m, mirror⟩ := p
    obtain ⟨hbank, hoffset⟩ := hslot m mirror hm
    rw [hbank, hoffset, movedRecord_some]
    by_cases h : (before.get l).bank = m.bank ∧ (before.get l).offset = m.offset
    · rw [if_pos h, if_pos (by simpa using h)]
    · rw [if_neg h, if_neg (by simpa using h)]
      rfl

theorem reparked_of_member {s : State} {l : LegId} {m : Member} {mirror : Bool}
    (h : slotMember (s.gait s.engine.current) s.sup.modes l = some (m, mirror)) :
    s.reparked l = parkedSlot (s.header m.bank).touchdown m mirror := by
  unfold State.reparked; rw [h]

theorem reparked_of_none {s : State} {l : LegId} (h : slotMember (s.gait s.engine.current) s.sup.modes l = none) :
    s.reparked l = restSlot := by
  unfold State.reparked; rw [h]

theorem repark_leg (s : State) (l : LegId) :
    s.repark.monitor.legs.get l
      = movedRecord (s.engine.slots.get l) (s.monitor.legs.get l) (slotMember (s.gait s.engine.current) s.sup.modes l) := by
  refine dropMovedCaptures_leg l fun m mirror hm => ?_
  show (PerLeg.get (.ofFn s.reparked) l).bank = m.bank ∧ (PerLeg.get (.ofFn s.reparked) l).offset = m.offset
  rw [PerLeg.get_ofFn, reparked_of_member (s := s) hm]
  exact ⟨rfl, rfl⟩

/-! ### STANDING from STOPPING (R40, R149, R159) -/

theorem stoodStill_stood (s : State) : StoodStill s (stood s) := by
  unfold stood
  cases hg : s.engine.pendingGait with
  | none =>
    rw [applyPendingStanding_none (s := standingAlerted s) hg]
    refine ⟨rfl, hg, fun _ => ⟨rfl, rfl, rfl⟩, fun g h => ?_, ?_⟩
    · rw [hg] at h; cases h
    · rw [← hg]; rfl
  | some g =>
    rw [applyPendingStanding_some (s := standingAlerted s) hg]
    refine ⟨rfl, rfl, fun h => ?_, fun g' h => ?_, rfl⟩
    · rw [hg] at h; cases h
    · obtain rfl := Option.some.inj (hg.symm.trans h)
      refine ⟨rfl, rfl, fun l => ⟨?_, ?_⟩⟩
      · rw [State.repark_slots]
        rfl
      · rw [repark_leg]
        rfl

theorem completeStop_of_stop {s : State} {e : Entry} {below : List Entry} (h : s.arbiter.stack = e :: below)
    (hstop : e.action = .stop) (hclear : s.unit.finished = .clear) :
    s.completeStop = (poppedTop s .complete e below).reexamine := by
  unfold State.completeStop
  rw [h]
  exact (if_pos ⟨hstop, hclear⟩).trans (popTop_cons .complete h)

theorem completeStop_of_other {s : State}
    (h : ∀ e below, s.arbiter.stack = e :: below → e.action ≠ .stop ∨ s.unit.finished ≠ .clear) : s.completeStop = s := by
  unfold State.completeStop
  cases hstack : s.arbiter.stack with
  | nil => rfl
  | cons e below =>
    refine if_neg fun ⟨hstop, hclear⟩ => ?_
    obtain hne | hne := h e below hstack
    · exact hne hstop
    · exact hne hclear

/-- The whole step from STOPPING to STANDING is the statement's. -/
theorem standingEntered_standFromStopping (s : State) : StandingEntered s s.standFromStopping := by
  rw [standFromStopping_eq]
  refine ⟨stood s, (stood s).completeStop, stoodStill_stood s, completeStop_of_other, fun e below h hstop hclear => ?_,
    fun hp => ?_, fun hp => ?_⟩
  · rw [completeStop_of_stop h hstop hclear]
    exact ⟨_, entryPopped_poppedTop .., reexamined_reexamine _⟩
  · rw [if_neg (by rw [hp]; exact Bool.false_ne_true)]
  · rw [if_pos hp]
    exact ⟨softResetLeaves_applyReset (.refl _), applyReset_link _⟩

/-! ### STOPPING from WALKING (R36, R150) -/

theorem stoppingEntered_stoppingEntered (s : State) : StoppingEntered s (stoppingEntered s) :=
  ⟨fun l => stoppingEntered_slots s l, rfl⟩

/-- Some playing leg stays unparked as STOPPING is entered. -/
abbrev StoppingLasts (s : State) : Prop :=
  ∃ l, s.playing l = true ∧ (s.engine.slots.get l).parked = none ∧ (s.header (s.engine.slots.get l).bank).emptyWindow = false

theorem everyPlayingParked_iff (s : State) :
    s.everyPlayingParked = true ↔ ∀ l, s.playing l = true → (s.engine.slots.get l).parked.isSome = true := by
  unfold State.everyPlayingParked
  rw [List.all_eq_true]
  refine ⟨fun h l hl => ?_, fun h l _ => ?_⟩
  · simpa [hl] using h l (by cases l <;> decide)
  · cases hl : s.playing l with
    | false => rfl
    | true => exact h l hl

theorem stoppingLasts_iff (s : State) : StoppingLasts s ↔ (stoppingEntered s).everyPlayingParked = false := by
  rw [← Bool.not_eq_true, everyPlayingParked_iff, not_forall]
  refine exists_congr fun l => ?_
  rw [stoppingEntered_slots, show (stoppingEntered s).playing l = s.playing l from rfl]
  unfold State.parkEmpty
  dsimp only
  by_cases hplay : s.playing l = true
  · cases hparked : (s.engine.slots.get l).parked with
    | some p => simp [hparked]
    | none =>
      cases hempty : (s.header (s.engine.slots.get l).bank).emptyWindow with
      | true => simp [hplay]
      | false => simp [hplay, hparked]
  · simp [hplay]

/-- Entering STOPPING, in the statement's words. -/
theorem enterStopping_entered (s : State) :
    StoppingEntered s (stoppingEntered s)
    ∧ (StoppingLasts s → s.enterStopping = stoppingEntered s)
    ∧ (¬StoppingLasts s → StandingEntered (stoppingEntered s) s.enterStopping) := by
  rw [enterStopping_eq, stoppingLasts_iff]
  refine ⟨stoppingEntered_stoppingEntered s, fun h => if_neg (by rw [h]; exact Bool.false_ne_true), fun h => ?_⟩
  rw [if_pos (Bool.not_eq_false _ ▸ h)]
  exact standingEntered_standFromStopping _

/-! ### The requests to walk and to stop (R149, R150) -/

/-- A stop request that a top STOP makes again as WALKING is entered (R114). -/
theorem enterWalking_eq {s : State} (hrelevel : s.balance.relevel = none) :
    s.enterWalking = { s with
      sup := { s.sup with op := .walking }
      link := s.link.post (newAlert .stateChange .none (.state .walking none) s.ring.tag (opCode s.sup.op))
      wires := { s.wires with stopRequests := s.wires.stopRequests
        + (if s.arbiter.stack.head?.map Entry.action = some .stop ∧ s.unit.finished = .clear then 1 else 0) } } := by
  unfold State.enterWalking
  dsimp only
  rw [abortRelevel_none _ (by exact hrelevel)]
  split
  · next e below hstack =>
    have hstack : s.arbiter.stack = e :: below := hstack
    rw [hstack]
    simp only [List.head?_cons, Option.map_some, Option.some.injEq]
    by_cases hasks : e.action = .stop ∧ s.unit.finished = .clear
    · rw [if_pos hasks]
      exact if_pos hasks
    · rw [if_neg hasks]
      exact if_neg hasks
  · next hstack =>
    have hstack : s.arbiter.stack = [] := hstack
    rw [hstack]
    rfl

/-- Settles O39. -/
theorem walkAndStopRequestsAct : Obligations.WalkAndStopRequestsAct := by
  refine ⟨fun s hreq hrelevel => ⟨fun hop hreset => ?_, fun hno => ?_⟩, fun s hreq => ⟨fun hop => ?_, fun hop => ?_⟩⟩
  · show execWalkRequest s = _
    unfold execWalkRequest State.doWalk
    rw [if_neg (Nat.ne_of_gt hreq), if_pos ⟨hop, hreset⟩, enterWalking_eq (by exact hrelevel)]
  · have hstay : ¬((s.sup.op = .standing ∨ s.sup.op = .stopping) ∧ s.sup.resetPending = false) := by
      rintro ⟨hop, hreset⟩
      obtain h | h | h | h := hno
      · rw [h] at hop; revert hop; decide
      · rw [h] at hop; revert hop; decide
      · rw [h] at hop; revert hop; decide
      · rw [h] at hreset; cases hreset
    show execWalkRequest s = _
    unfold execWalkRequest State.doWalk
    rw [if_neg (Nat.ne_of_gt hreq), if_neg hstay]
  · show execStopRequest s = _
    unfold execStopRequest State.doStop
    rw [if_neg (Nat.ne_of_gt hreq), if_neg hop]
  · refine ⟨_, _, ?_, enterStopping_entered _⟩
    show execStopRequest s = _
    unfold execStopRequest State.doStop
    rw [if_neg (Nat.ne_of_gt hreq), if_pos hop]

/-! ### The report that all legs are parked (R149) -/

theorem exec_allParked {s : State} (h : s.wires.allParked = true) :
    exec .allParked s = .next (if s.sup.op = .stopping ∧ s.everyPlayingParked = true then
        ({ s with wires := { s.wires with allParked := false } } : State).standFromStopping
      else { s with wires := { s.wires with allParked := false } }) := by
  show execAllParked s = _
  unfold execAllParked
  rw [if_pos h]
  dsimp only
  split <;> rfl

theorem standingEntered_of_wires {s t : State} (h : StandingEntered { s with wires := { s.wires with allParked := false } } t) :
    StandingEntered s t := h

/-- A STOP alone on the stack and nothing pending: the completed STOP leaves an empty stack, and nothing is taken. -/
theorem completeStop_of_alone {s : State} (hpending : s.arbiter.pending = 0)
    (hstack : s.arbiter.stack = [] ∨ ∃ e, s.arbiter.stack = [e] ∧ e.action = .stop ∧ s.unit.finished = .clear) :
    ∃ a x k, s.completeStop = { s with arbiter := a, unit := x, link := k } ∧ a.stack = [] ∧ a.pending = 0 := by
  obtain hempty | ⟨e, hone, hstop, hclear⟩ := hstack
  · refine ⟨s.arbiter, s.unit, s.link, completeStop_of_other fun e below h => ?_, hempty, hpending⟩
    rw [hempty] at h
    cases h
  · have hidle : ∀ c, IsCandidate (poppedTop s .complete e []).arbiter c → ¬Takeable (poppedTop s .complete e []).arbiter c := by
      intro c hc
      rw [← candidate_some_iff, candidate_of_pending_zero _ (by exact hpending)] at hc
      cases hc
    rw [completeStop_of_stop hone hstop hclear]
    refine ⟨(poppedTop s .complete e []).arbiter, (poppedTop s .complete e []).unit, (poppedTop s .complete e []).link,
      (reexamineN_of_none_takeable hidle).trans ?_, rfl, hpending⟩
    unfold poppedTop
    rw [resumeTop_nil rfl]
    rfl

theorem allParked_quiet {s : State} (h : s.wires.allParked = true) (hop : s.sup.op = .stopping)
    (hparked : s.everyPlayingParked = true) (hreset : s.sup.resetPending = false)
    (hstack : s.arbiter.stack = [] ∨ ∃ e, s.arbiter.stack = [e] ∧ e.action = .stop ∧ s.unit.finished = .clear)
    (hpending : s.arbiter.pending = 0) :
    ∃ t a x k m, exec .allParked s = .next t
      ∧ t = { s with
          sup := { s.sup with op := .standing }, arbiter := a, unit := x, link := k, monitor := m
          engine := { s.engine with rate := 0, pendingGait := none, slots := t.engine.slots, current := t.engine.current }
          wires := { s.wires with allParked := false } }
      ∧ a.stack = [] ∧ a.pending = 0
      ∧ (s.engine.pendingGait = none → t.engine.slots = s.engine.slots ∧ t.engine.current = s.engine.current)
      ∧ ∀ g, s.engine.pendingGait = some g → t.engine.current = g
        ∧ ∀ l m mirror, slotMember (s.gait g) s.sup.modes l = some (m, mirror) →
          t.engine.slots.get l = parkedSlot (s.header m.bank).touchdown m mirror := by
  generalize hs0 : ({ s with wires := { s.wires with allParked := false } } : State) = s0
  obtain ⟨-, -, hkeep, happly, hp⟩ := stoodStill_stood s0
  have hstack' : (stood s0).arbiter.stack = []
      ∨ ∃ e, (stood s0).arbiter.stack = [e] ∧ e.action = .stop ∧ (stood s0).unit.finished = .clear := by
    rw [hp, ← hs0]; exact hstack
  obtain ⟨a, x, k, hcomplete, ha, hpend⟩ := completeStop_of_alone (s := stood s0) (by rw [hp, ← hs0]; exact hpending) hstack'
  have hexec : exec .allParked s = .next (stood s0).completeStop := by
    rw [exec_allParked h, if_pos ⟨hop, hparked⟩, hs0, standFromStopping_eq]
    refine congrArg _ (if_neg ?_)
    rw [hcomplete, hp, ← hs0]
    show ¬s.sup.resetPending = true
    rw [hreset]
    exact Bool.false_ne_true
  refine ⟨_, a, x, k, (stood s0).monitor, hexec, ?_, ha, hpend, ?_, ?_⟩ <;> rw [hcomplete]
  · rw [← hs0] at hp ⊢
    generalize stood _ = p at hp ⊢
    rw [hp]
  · rw [← hs0] at hkeep ⊢
    exact fun hg => ⟨(hkeep hg).1, (hkeep hg).2.1⟩
  · rw [← hs0] at happly ⊢
    intro g hg
    obtain ⟨hcurrent, -, hlegs⟩ := happly g hg
    refine ⟨hcurrent, fun l m mirror hm => ?_⟩
    have hm : slotMember (s.gait g) s.sup.modes l = some (m, mirror) := hm
    refine (hlegs l).1.trans ?_
    show (match slotMember (s.gait g) s.sup.modes l with
      | some (m, mirror) => parkedSlot (s.header m.bank).touchdown m mirror
      | none => restSlot) = _
    rw [hm]

/-- Settles O40. -/
theorem allParkedEntersStanding : Obligations.AllParkedEntersStanding := by
  intro s h
  refine ⟨fun hop => ?_, fun hop hparked hreset hstack hpending => ?_, fun hop hparked => ?_, fun hop hparked => ?_⟩
  · rw [exec_allParked h, if_neg fun ⟨hstop, _⟩ => hop hstop]
  · obtain ⟨t, a, x, k, m, hexec, ht, ha, hp, hkeep, happly⟩ := allParked_quiet h hop hparked hreset hstack hpending
    refine ⟨t, hexec, ?_⟩
    generalize hslots : t.engine.slots = slots at ht hkeep happly ⊢
    generalize hcurrent : t.engine.current = current at ht hkeep happly ⊢
    rw [ht]
    exact ⟨rfl, rfl, rfl, rfl, rfl, ha, hp, hkeep, happly, rfl, rfl, rfl, rfl, rfl, rfl⟩
  · rw [exec_allParked h, if_pos ⟨hop, hparked⟩]
    exact ⟨_, rfl, standingEntered_of_wires (standingEntered_standFromStopping _)⟩
  · rw [exec_allParked h, if_neg fun ⟨_, hall⟩ => by rw [hparked] at hall; cases hall]

/-! ### The request of SAFE (R151) -/

/-- The reach-holds take the reaches of all the PLANTs that leave (R112, R118). -/
theorem foldl_settle_get (l : LegId) (stack : List Entry) (hold : PerLeg Nat) :
    (stack.foldl settle hold).get l
      = let plants := stack.filter fun e => e.action = .plant ∧ e.leg = some l
        if plants = [] then hold.get l else min (hold.get l + (plants.map Entry.reach).sum) 1023 := by
  induction stack generalizing hold with
  | nil => rfl
  | cons e below ih =>
    rw [List.foldl_cons, ih, settle_get]
    dsimp only
    by_cases hplant : e.action = .plant ∧ e.leg = some l
    · rw [List.filter_cons_of_pos (by simpa using hplant), if_pos hplant, if_neg (List.cons_ne_nil _ _), List.map_cons,
        List.sum_cons]
      split
      · next hempty => rw [hempty]; simp
      · omega
    · rw [List.filter_cons_of_neg (by simpa using hplant), if_neg hplant]

theorem exec_safeRequest {s : State} {c : SafeCause} (h : c ∈ s.wires.safeRequests) :
    exec (.safeRequest c) s
      = .next (({ s with wires := { s.wires with safeRequests := s.wires.safeRequests.erase c } } : State).enterSafe
          (Machine.SafeCause.posture c) (some (Machine.SafeCause.line c))) := by
  show execSafeRequest c s = _
  unfold execSafeRequest
  rw [if_pos (List.elem_eq_true_of_mem h)]

theorem safeCause_hard (c : SafeCause) : Machine.SafeCause.line c ≤ 5 := by
  cases c with
  | fallCrouch => decide
  | driveFaultHold l => cases l <;> decide

theorem endOutcome_top (s : State) (line : Nat) (hline : line ≤ 5) :
    ∀ e ∈ s.arbiter.stack.head?, endOutcome (some line) true e
      = if s.arbiter.stack.head?.map Entry.line = some line then .complete else .abandoned := by
  intro e he
  rw [Option.mem_def.mp he, Option.map_some]
  by_cases h : some e.line = some line
  · rw [if_pos h]
    have h := Option.some.inj h
    exact if_pos ⟨rfl, by rw [h], (lineHard_iff _).mpr (by rw [h]; exact hline)⟩
  · rw [if_neg h]
    exact if_neg fun ⟨_, hreq, _⟩ => h hreq.symm

theorem applyReset_wires (s : State) : s.applyReset.wires = s.wires := by rw [applyReset_eq]; rfl

theorem resetsAlike_wires (s : State) (w : Wires) : ResetsAlike s { s with wires := w } :=
  ⟨fun _ => rfl, rfl, rfl, fun _ => rfl, rfl, rfl, fun _ => rfl, rfl, rfl, rfl, rfl, .refl _⟩

theorem resetsAlike_reply (s : State) (f : CmdFrame) (code : ReplyCode) (data : List Byte) : ResetsAlike s (s.reply f code data) :=
  ⟨fun _ => rfl, rfl, rfl, fun _ => rfl, rfl, rfl, fun _ => rfl, rfl, rfl, rfl, rfl, ⟨rfl, rfl, rfl, rfl, rfl⟩⟩

/-- The link as SAFE is entered at a request. -/
def safeRequestLink (s : State) (c : SafeCause) : Link :=
  SafeAlerts s s.link
    (if s.arbiter.stack.head?.map Entry.line = some (Machine.SafeCause.line c) then .complete else .abandoned)
    (Machine.SafeCause.posture c)

theorem safeRequest_entered {s : State} {c : SafeCause} (h : c ∈ s.wires.safeRequests) :
    let w0 : Wires := { s.wires with safeRequests := s.wires.safeRequests.erase c }
    (s.sup.op.isLive = false → exec (.safeRequest c) s = .next { s with wires := w0 })
    ∧ (s.sup.op.isLive = true → s.sup.resetPending = true →
      ∃ t, exec (.safeRequest c) s = .next t ∧ SoftResetLeaves s t
        ∧ t.link = ResetAlerts (safeRequestLink s c) s.ring.tag .safe [] ∧ t.wires = w0)
    ∧ (s.sup.op.isLive = true → s.sup.resetPending = false →
      exec (.safeRequest c) s = .next { s.safeBlocks (Machine.SafeCause.posture c) with
        balance := { s.balance with relevel := none }, link := safeRequestLink s c, wires := w0 }) := by
  have hexec := exec_safeRequest h
  dsimp only
  generalize hs0 : ({ s with wires := { s.wires with safeRequests := s.wires.safeRequests.erase c } } : State) = s0 at hexec
  have htop := endOutcome_top s0 (Machine.SafeCause.line c) (safeCause_hard c)
  have hsup : s0.sup = s.sup := by rw [← hs0]
  refine ⟨fun hrest => ?_, fun hlive hp => ⟨_, hexec, ?_⟩, fun hlive hp => ?_⟩
  · rw [hexec, ← hs0]
    exact congrArg _ (if_neg (by rw [hrest]; exact Bool.false_ne_true))
  · have hlive0 : s0.sup.op.isLive = true := by rw [hsup]; exact hlive
    have hp0 : s0.sup.resetPending = true := by rw [hsup]; exact hp
    have halike : ResetsAlike s s0 := by rw [← hs0]; exact resetsAlike_wires s _
    obtain ⟨hleaves, hlink⟩ := enterSafe_of_pending (p := Machine.SafeCause.posture c) hlive0 htop hp0 halike
    refine ⟨hleaves, hlink.trans ?_, ?_⟩
    · rw [← hs0]; rfl
    · rw [enterSafe_eq hlive0 htop, if_pos hp0, applyReset_wires, ← hs0]
      rfl
  · rw [hexec, enterSafe_of_not_pending (by rw [hsup]; exact hlive) htop (by rw [hsup]; exact hp), ← hs0]
    rfl

/-- Settles O41. -/
theorem safeRequestEntersSafe : Obligations.SafeRequestEntersSafe := by
  have hentered (s : State) (p : Posture) (k : Link) (w : Wires) (l : LegId) :
      ({ s.safeBlocks p with balance := { s.balance with relevel := none }, link := k, wires := w } : State).monitor.legs.get l
        = { s.monitor.legs.get l with capture := none } := by
    show PerLeg.get (.ofFn fun l => (s.monitor.legs.get l).abandon) l = _
    rw [PerLeg.get_ofFn]
    rfl
  intro s c h
  obtain ⟨hrest, hreset, hsafe⟩ := safeRequest_entered h
  cases c <;>
    exact ⟨hrest, hreset, fun hlive hp => ⟨_, hsafe hlive hp, rfl, rfl, rfl, rfl, rfl, fun l => foldl_settle_get l _ _, rfl,
      hentered s _ _ _, rfl, rfl, rfl, rfl, rfl, rfl, rfl, rfl⟩⟩

/-! ### The soft reset asked for (R158 to R160) -/

/-- Settles O42. -/
theorem resetAppliesOrWaits : Obligations.ResetAppliesOrWaits := by
  refine ⟨fun s f h => ?_, fun s hp hop => ⟨fun hcount => ?_, fun hcount => ?_⟩⟩
  · have hexec : exec .reset s = _ := completing_of_busy h _
    dsimp only at hexec
    refine ⟨fun hrest => ⟨(s.reply f .done []).applyReset, ?_, ?_, applyReset_link _⟩, fun hop => ⟨_, _, ?_, enterStopping_entered _⟩,
      fun hop hp => ?_, fun hop hp => ?_⟩
    · rw [hexec]
      obtain hop | hop | hop := hrest <;> rw [hop]
    · exact softResetLeaves_applyReset (resetsAlike_reply s f .done [])
    · rw [hexec]
      split
      case h_4 => rfl
      all_goals rename_i hother; exact nomatch hop.symm.trans hother
    · rw [hexec]
      split
      case h_5 => exact congrArg _ (if_neg (by rw [hp]; exact Bool.false_ne_true))
      all_goals rename_i hother; exact nomatch hop.symm.trans hother
    · rw [hexec]
      split
      case h_5 => exact congrArg _ (if_pos hp)
      all_goals rename_i hother; exact nomatch hop.symm.trans hother
  · refine ⟨s.applyReset, if_pos ⟨hp, hcount⟩, softResetLeaves_applyReset (.refl s), ?_⟩
    rw [applyReset_link, hop]
  · exact if_neg fun ⟨_, h⟩ => Nat.ne_of_lt hcount h

end Sys2Proof.Machine
end

section
/-! ## Leg modes and drive failures in the statements' terms (R20, R54, R100, R154 to R157) -/
namespace Sys2Proof.Machine

-- One proof after another: side by side they take more threads than the memory limit of the check allows.
set_option Elab.async false

/-! ### A change of mode (R154, R157) -/

/-- The leg modes after a change. -/
abbrev modesAfter (s : State) (leg : LegId) (m : Mode) : PerLeg Mode := s.sup.modes.set leg m

theorem reportParked_wires (s : State) : s.reportParked = { s with wires := s.reportParked.wires } := by
  unfold State.reportParked
  split <;> rfl

theorem changeMode_fields (s : State) (leg : LegId) (m : Mode) (n : Nat) :
    s.changeMode leg m n = { modeSet s leg m n with
      engine := { s.engine with
        current := n, slots := (s.changeMode leg m n).engine.slots
        intent := { s.engine.intent with
          rateTarget := clampN s.engine.intent.rateTarget s.engine.walk.rateFloor (rateCap s.engine.walk (modesAfter s leg m)) } }
      monitor := { s.monitor with legs := (s.changeMode leg m n).monitor.legs }
      wires := (s.changeMode leg m n).wires } := by
  rw [changeMode_eq]
  generalize hu : (if n = s.engine.current then (modeSet s leg m n).rederive else (modeSet s leg m n).repark) = u
  rw [reportParked_wires]
  split at hu <;> rw [← hu] <;> rfl

theorem changeMode_slot (s : State) (leg : LegId) (m : Mode) (n : Nat) (l : LegId) :
    (s.changeMode leg m n).engine.slots.get l
      = if n = s.engine.current then (modeSet s leg m n).rekept l else (modeSet s leg m n).reparked l := by
  rw [changeMode_eq, reportParked_wires]
  split
  · exact State.rederive_slots ..
  · exact State.repark_slots ..

theorem rederive_leg (s : State) (l : LegId) :
    s.rederive.monitor.legs.get l
      = movedRecord (s.engine.slots.get l) (s.monitor.legs.get l) (slotMember (s.gait s.engine.current) s.sup.modes l) := by
  refine dropMovedCaptures_leg l fun m mirror hm => ?_
  show (PerLeg.get (.ofFn s.rekept) l).bank = m.bank ∧ (PerLeg.get (.ofFn s.rekept) l).offset = m.offset
  rw [PerLeg.get_ofFn]
  have hm : slotMember (s.gait s.engine.current) s.sup.modes l = some (m, mirror) := hm
  obtain ⟨m', mirror', hm', ⟨⟨hbank, hoffset, -⟩, h⟩ | h⟩ | ⟨hnone, -⟩ := rekept_cases s l
  · rw [hm] at hm'; obtain ⟨rfl, rfl⟩ := hm'; rw [h]; exact ⟨hbank, hoffset⟩
  · rw [hm] at hm'; obtain ⟨rfl, rfl⟩ := hm'; rw [h]; exact ⟨rfl, rfl⟩
  · rw [hm] at hnone; cases hnone

theorem changeMode_leg (s : State) (leg : LegId) (m : Mode) (n : Nat) (l : LegId) :
    (s.changeMode leg m n).monitor.legs.get l
      = movedRecord (s.engine.slots.get l) (s.monitor.legs.get l) (slotMember (s.gait n) (modesAfter s leg m) l) := by
  rw [changeMode_eq, reportParked_wires]
  split
  · exact rederive_leg (modeSet s leg m n) l
  · exact repark_leg (modeSet s leg m n) l

theorem changeMode_slot_of_none {s : State} {leg : LegId} {m : Mode} {n : Nat} {l : LegId}
    (h : slotMember (s.gait n) (modesAfter s leg m) l = none) : (s.changeMode leg m n).engine.slots.get l = restSlot := by
  rw [changeMode_slot]
  split
  · obtain ⟨g, mirror, hg, -⟩ | ⟨-, hrest⟩ := rekept_cases (modeSet s leg m n) l
    · exact nomatch h.symm.trans hg
    · exact hrest
  · exact reparked_of_none h

theorem changeMode_slot_of_new {s : State} {leg : LegId} {m : Mode} {n : Nat} {l : LegId} {g : Member} {mirror : Bool}
    (hn : n ≠ s.engine.current) (h : slotMember (s.gait n) (modesAfter s leg m) l = some (g, mirror)) :
    (s.changeMode leg m n).engine.slots.get l = parkedSlot (s.header g.bank).touchdown g mirror := by
  rw [changeMode_slot, if_neg hn]
  exact reparked_of_member (s := modeSet s leg m n) h

/-- Where the entry stays, a slot that plays the same member is kept, and any other is parked at touchdown (R20). -/
theorem changeMode_slot_of_current {s : State} {leg : LegId} {m : Mode} {n : Nat} {l : LegId} {g : Member} {mirror : Bool}
    (hn : n = s.engine.current) (h : slotMember (s.gait n) (modesAfter s leg m) l = some (g, mirror)) :
    (s.changeMode leg m n).engine.slots.get l
      = if (s.engine.slots.get l).bank = g.bank ∧ (s.engine.slots.get l).offset = g.offset ∧ (s.engine.slots.get l).mirror = mirror
        then s.engine.slots.get l else parkedSlot (s.header g.bank).touchdown g mirror := by
  rw [changeMode_slot, if_pos hn]
  unfold State.rekept
  have h : slotMember ((modeSet s leg m n).gait (modeSet s leg m n).engine.current) (modeSet s leg m n).sup.modes l
      = some (g, mirror) := h
  rw [h]
  rfl

/-- The non-playing slot is what parks at the touchdown of the built-in standing bank, whose touchdown is 0 (R18, R21). -/
theorem restSlot_eq_parkedSlot {s : State} {g : Member} {mirror : Bool} (hs : ProfileLaw s)
    (hsame : restSlot.bank = g.bank ∧ restSlot.offset = g.offset ∧ restSlot.mirror = mirror) :
    restSlot = parkedSlot (s.header g.bank).touchdown g mirror := by
  obtain ⟨-, -, hstand, -⟩ := hs
  obtain ⟨hbank, hoffset, hmirror⟩ := hsame
  have htouchdown : (s.header g.bank).touchdown = 0 := by
    rw [← hbank]
    unfold State.header State.profile
    rw [show s.bank restSlot.bank = .ready standProfile from hstand]
    rfl
  unfold parkedSlot
  rw [htouchdown, ← hbank, ← hoffset, ← hmirror]
  rfl

theorem ofNum_none {n : Nat} (h : 3 < n) : LegId.ofNum n = none := by
  match n with
  | 0 | 1 | 2 | 3 => omega
  | n + 4 => rfl

theorem ofNum_num (l : LegId) : LegId.ofNum l.num = some l := by cases l <;> rfl

theorem modeArg_none {n : Nat} (h : 2 < n) : modeArg n = none := by
  match n with
  | 0 | 1 | 2 => omega
  | n + 3 => rfl

theorem modeArg_code {m : Mode} (h : m ≠ .faulted) : modeArg m.code = some m := by
  cases m with
  | active | stowed | strut => rfl
  | faulted => exact absurd rfl h

theorem exec_setLegMode {s : State} {f : CmdFrame} {l : LegId} {m : Mode} (h : s.busyWith .setLegMode f)
    (hl : LegId.ofNum (u8 f.args 0) = some l) (hm : modeArg (u8 f.args 1) = some m) :
    exec .setLegMode s = .next (if s.sup.op.isMoving then s.refuse f .state
      else if 15 < u8 f.args 2 || 2 ≤ outCount (modesAfter s l m) then s.refuse f .range
      else if !legal (s.gait (u8 f.args 2)) (modesAfter s l m) then s.refuse f .notReady
      else if s.sup.op != .config && (s.limits.get l).isNone && (m == .active || m == .strut) then s.refuse f .notReady
      else (s.changeMode l m (u8 f.args 2)).reply f .done []) := by
  refine (completing_of_busy h _).trans ?_
  rw [hl, hm]
  simp only [checked_cons, checked_nil]

theorem exec_setLegMode_bad {s : State} {f : CmdFrame} (h : s.busyWith .setLegMode f)
    (hbad : LegId.ofNum (u8 f.args 0) = none ∨ modeArg (u8 f.args 1) = none) :
    exec .setLegMode s = .next (if s.sup.op.isMoving then s.refuse f .state else s.refuse f .range) := by
  refine (completing_of_busy h _).trans ?_
  obtain hnone | hnone := hbad
  · rw [hnone]
    simp only [checked_cons, checked_nil, if_true]
  · rw [hnone]
    cases LegId.ofNum (u8 f.args 0) <;> simp only [checked_cons, checked_nil, if_true]

/-- What an accepted SET-LEG-MODE leaves (R157, R154, R20, R54). -/
theorem setLegMode_accepted {s : State} {f : CmdFrame} {l : LegId} {m : Mode} {n : Nat} :
    let t := (s.changeMode l m n).reply f .done []
    let after := s.sup.modes.set l m
    t.sup = { s.sup with modes := after } ∧ t.engine.current = n
    ∧ t.engine.intent.rateTarget = clampN s.engine.intent.rateTarget s.engine.walk.rateFloor (rateCap s.engine.walk after)
    ∧ (s.sup.modes.get l ≠ m → t.unit.reachHold = s.unit.reachHold.set l 0)
    ∧ (s.sup.modes.get l = m → t.unit = s.unit)
    ∧ t.link = (s.reply f .done []).link ∧ t.arbiter = s.arbiter ∧ t.shaper = s.shaper ∧ t.balance = s.balance
    ∧ t.ring = s.ring ∧ t.banks = s.banks ∧ t.gaits = s.gaits ∧ t.limits = s.limits := by
  dsimp only
  rw [changeMode_fields]
  refine ⟨rfl, rfl, rfl, fun hne => ?_, fun heq => ?_, rfl, rfl, rfl, rfl, rfl, rfl, rfl, rfl⟩
  · exact congrArg ActionUnit.reachHold (if_neg hne)
  · exact if_pos heq

/-- Settles O44. -/
theorem setLegModeSetsModeAndGait : Obligations.SetLegModeSetsModeAndGait := by
  intro s f l m h
  refine ⟨fun hmoving => ?_, fun hwalking hstopping => ?_⟩
  · have hmoving : s.sup.op.isMoving = true := by obtain hop | hop := hmoving <;> rw [hop] <;> rfl
    cases hl : LegId.ofNum (u8 f.args 0) with
    | none => rw [exec_setLegMode_bad h (.inl hl), if_pos hmoving]
    | some l' =>
      cases hm : modeArg (u8 f.args 1) with
      | none => rw [exec_setLegMode_bad h (.inr hm), if_pos hmoving]
      | some m' => rw [exec_setLegMode h hl hm, if_pos hmoving]
  have hstill : ¬s.sup.op.isMoving = true := by
    cases hop : s.sup.op with
    | walking => exact absurd hop hwalking
    | stopping => exact absurd hop hstopping
    | config | standing | safe => decide
  dsimp only
  refine ⟨fun hbad => ?_, fun hleg hmode hfaulted hn => ?_⟩
  · cases hl : LegId.ofNum (u8 f.args 0) with
    | none => rw [exec_setLegMode_bad h (.inl hl), if_neg hstill]
    | some l' =>
      cases hm : modeArg (u8 f.args 1) with
      | none => rw [exec_setLegMode_bad h (.inr hm), if_neg hstill]
      | some m' =>
        obtain h3 | h2 | h15 := hbad
        · rw [ofNum_none h3] at hl; cases hl
        · rw [modeArg_none h2] at hm; cases hm
        · rw [exec_setLegMode h hl hm, if_neg hstill, if_pos (by simp [h15])]
  have hexec := exec_setLegMode h (by rw [hleg]; exact ofNum_num l) (by rw [hmode]; exact modeArg_code hfaulted)
  rw [if_neg hstill] at hexec
  have hrange (hout : outCount (s.sup.modes.set l m) ≤ 1) :
      ¬(decide (15 < u8 f.args 2) || decide (2 ≤ outCount (modesAfter s l m))) = true := by
    rw [Bool.or_eq_true, decide_eq_true_eq, decide_eq_true_eq]
    exact fun h => h.elim (Nat.not_lt.mpr hn) (Nat.not_le.mpr (Nat.lt_succ_of_le hout))
  refine ⟨fun hout => ?_, fun hout => ⟨fun hno => ?_, fun hlegal hlimits =>
    ⟨(s.changeMode l m (u8 f.args 2)).reply f .done [], ?_, ?_⟩⟩⟩
  · rw [hexec, if_pos (by simp [hout])]
  · rw [hexec, if_neg (hrange hout)]
    obtain hlegal | ⟨hop, hlimit, hm⟩ := hno
    · rw [if_pos (by rw [hlegal]; rfl)]
    · split
      · rfl
      · rw [if_pos (by simp [hop, hlimit, hm])]
  · rw [hexec, if_neg (hrange hout), if_neg (by rw [hlegal]; decide), if_neg ?_]
    obtain hop | hlimit | hm := hlimits
    · simp [hop]
    · cases hset : s.limits.get l with
      | none => rw [hset] at hlimit; cases hlimit
      | some lims => simp
    · simp [hm]
  · obtain ⟨hsup, hcurrent, htarget, hhold, hunit, hlink, hrest⟩ := 
      setLegMode_accepted (s := s) (f := f) (l := l) (m := m) (n := u8 f.args 2)
    refine ⟨hsup, hcurrent, htarget, hhold, hunit, fun hn i g mirror hg => changeMode_slot_of_new hn hg,
      fun hn i g mirror hg => ⟨fun _ hsame => ?_, fun hother => ?_⟩, fun i hi => changeMode_slot_of_none hi,
      fun i => changeMode_leg s l m _ i, hlink, hrest⟩
    · exact (changeMode_slot_of_current hn hg).trans (if_pos hsame)
    · refine (changeMode_slot_of_current hn hg).trans ?_
      obtain hdiff | ⟨hplay, hprofile, hfilled, -⟩ := hother
      · exact if_neg hdiff
      · have hrest : s.engine.slots.get i = restSlot := by
          have hi := hfilled i
          unfold State.playing at hplay
          cases hmember : slotMember (s.gait s.engine.current) s.sup.modes i with
          | none => rw [hmember] at hi; exact hi
          | some p => rw [hmember] at hplay; cases hplay
        rw [hrest]
        split
        · next hsame => exact restSlot_eq_parkedSlot hprofile hsame
        · rfl

end Sys2Proof.Machine
end

section
/-! ## RELEASE, RESUME and drive failures (R100, R152 to R156) -/
namespace Sys2Proof.Machine

-- One proof after another: side by side they take more threads than the memory limit of the check allows.
set_option Elab.async false

/-! ### SAFE entered from any state -/

/-- Whatever the requester, the top entry ends in one way. -/
theorem exists_endOutcome_top (s : State) (r : Option Nat) :
    ∃ top, ∀ e ∈ s.arbiter.stack.head?, endOutcome r true e = top := by
  cases s.arbiter.stack.head? with
  | none => exact ⟨.abandoned, fun _ he => nomatch he⟩
  | some e => exact ⟨_, fun x hx => by obtain rfl := Option.some.inj hx; rfl⟩

theorem enterSafe_not_live {s : State} (p : Posture) (r : Option Nat) : (s.enterSafe p r).sup.op.isLive = false := by
  cases hlive : s.sup.op.isLive with
  | false => rw [enterSafe_of_not_live s p r hlive, hlive]
  | true =>
    obtain ⟨top, htop⟩ := exists_endOutcome_top s r
    rw [enterSafe_eq hlive htop]
    split
    · rw [(applyReset_sup _).1]; rfl
    · rfl

/-- No entry of the arbiter asks for SAFE on the supervisor's own conditions: every entry is abandoned. -/
theorem endOutcome_none (s : State) : ∀ e ∈ s.arbiter.stack.head?, endOutcome none true e = .abandoned :=
  fun _ _ => if_neg fun ⟨_, h, _⟩ => nomatch h

/-! ### What the arbiter's takings can touch -/

/-- A state that differs from another in the arbiter's runtime state, the action unit, the link and what waits between the blocks
alone, with the arbiter's settings as they were. -/
structure ArbiterOnly (s u : State) : Prop where
  frame   : u = { s with arbiter := u.arbiter, unit := u.unit, link := u.link, wires := u.wires }
  arbiter : u.softReset.arbiter = s.softReset.arbiter
  link    : LinkAlike s.link u.link

theorem ArbiterOnly.refl (s : State) : ArbiterOnly s s := ⟨rfl, rfl, .refl _⟩

theorem ArbiterOnly.trans {s u v : State} (h : ArbiterOnly s u) (h' : ArbiterOnly u v) : ArbiterOnly s v where
  frame := by rw [h'.frame, h.frame]
  arbiter := h'.arbiter.trans h.arbiter
  link := h.link.trans h'.link

theorem ArbiterOnly.sup {s u : State} (h : ArbiterOnly s u) : u.sup = s.sup := by rw [h.frame]

theorem ArbiterOnly.resetsAlike {s u : State} (h : ArbiterOnly s u) : ResetsAlike s u := by
  have harbiter := h.arbiter
  have hlink := h.link
  rw [h.frame] at harbiter hlink ⊢
  exact ⟨fun _ => rfl, rfl, rfl, fun _ => rfl, rfl, harbiter, fun _ => rfl, rfl, rfl, rfl, rfl, hlink⟩

theorem arbiterOnly_alert (s : State) (kind : AlertKind) (key : Key) (detail : Detail) (value : Int) :
    ArbiterOnly s (s.alert kind key detail value) := ⟨rfl, rfl, linkAlike_post _ _⟩

theorem arbiterOnly_wires (s : State) (w : Wires) : ArbiterOnly s { s with wires := w } := ⟨rfl, rfl, .refl _⟩

theorem arbiterOnly_unit (s : State) (x : ActionUnit) : ArbiterOnly s { s with unit := x } := ⟨rfl, rfl, .refl _⟩

theorem arbiterOnly_shed (s : State) : ArbiterOnly s s.shed := by
  unfold State.shed
  split
  · exact .refl s
  · split
    · exact ⟨rfl, rfl, linkAlike_post _ _⟩
    · exact .refl s

theorem arbiterOnly_pushed (s : State) (line : Nat) : ArbiterOnly s (pushed s line) :=
  (arbiterOnly_shed s).trans ⟨rfl, rfl, .refl _⟩

theorem arbiterOnly_plantLooks (s : State) (e : Entry) : ArbiterOnly s (s.plantLooks e) := by
  unfold State.plantLooks
  split
  · split
    · exact arbiterOnly_unit ..
    · exact .refl s
  · exact .refl s

theorem arbiterOnly_stopAsks (s : State) : ArbiterOnly s s.stopAsks := by
  unfold State.stopAsks
  split
  · exact ⟨rfl, rfl, .refl _⟩
  · exact arbiterOnly_wires ..

/-- What the arbiter's takings come to: at most the arbiter's own, and then perhaps an entry into SAFE. -/
def Taken (s t : State) : Prop := ArbiterOnly s t ∨ ∃ v r, ArbiterOnly s v ∧ t = v.enterSafe .freeze r

theorem taken_startAction {s u : State} (h : ArbiterOnly s u) (e : Entry) : Taken s (u.startAction e) := by
  unfold State.startAction
  split
  · exact .inl h
  · exact .inl h
  · exact .inl (h.trans ⟨rfl, rfl, .refl _⟩)
  · exact .inl (h.trans (arbiterOnly_plantLooks ..))
  · exact .inl (h.trans (arbiterOnly_stopAsks _))
  · exact .inl (h.trans (arbiterOnly_unit ..))
  · exact .inr ⟨u, _, h, rfl⟩

theorem taken_take {s u : State} (h : ArbiterOnly s u) (c : Nat) : Taken s (u.take c) := by
  have hun : ArbiterOnly s (unpended u c) := h.trans ⟨rfl, rfl, .refl _⟩
  unfold State.take
  split
  · exact .inl ((hun.trans (arbiterOnly_alert ..)).trans (arbiterOnly_alert ..))
  · show Taken s ((unpended u c).push c)
    rw [push_eq]
    exact taken_startAction ((hun.trans (arbiterOnly_pushed ..)).trans (arbiterOnly_alert ..)) _

theorem taken_reexamine {s u : State} (h : ArbiterOnly s u) : Taken s u.reexamine := by
  refine reexamine_induct (Taken s) (fun u c hlive _ _ hu => ?_) u (.inl h)
  obtain hu | ⟨v, r, -, rfl⟩ := hu
  · exact taken_take hu c
  · rw [enterSafe_not_live] at hlive; cases hlive

theorem taken_takeRaise (s : State) (r : Raise) : Taken s (s.takeRaise r) := by
  rw [takeRaise_eq]
  split
  · exact taken_reexamine ⟨rfl, rfl, linkAlike_post _ _⟩
  · exact .inl ⟨rfl, rfl, linkAlike_post _ _⟩

/-- After the test of R156 too; where it finds two FAULTED legs in a live state SAFE has been entered. -/
theorem taken_multiFaultTest {s u : State} (h : Taken s u) : Taken s u.multiFaultTest := by
  unfold State.multiFaultTest
  split
  · obtain hu | ⟨v, r, hv, rfl⟩ := h
    · exact .inr ⟨u, none, hu, rfl⟩
    · rw [enterSafe_of_not_live _ _ _ (enterSafe_not_live ..)]
      exact .inr ⟨v, r, hv, rfl⟩
  · exact h

theorem multiFaultTest_safe {s u : State} (h : Taken s u) (hcount : 2 ≤ faultedCount s.sup.modes) :
    ∃ v r, ArbiterOnly s v ∧ u.multiFaultTest = v.enterSafe .freeze r := by
  obtain hu | ⟨v, r, hv, rfl⟩ := h
  · exact ⟨u, none, hu, if_pos (by rw [hu.sup]; exact hcount)⟩
  · refine ⟨v, r, hv, ?_⟩
    unfold State.multiFaultTest
    rw [enterSafe_of_not_live _ _ _ (enterSafe_not_live ..)]
    exact ite_self _

/-! ### RELEASE and RESUME (R152, R153) -/

theorem startStanding_slot (s : State) (l : LegId) : s.startStanding.engine.slots.get l = s.reparked l :=
  State.repark_slots ..

theorem startStanding_leg (s : State) (l : LegId) :
    s.startStanding.monitor.legs.get l
      = movedRecord (s.engine.slots.get l) (s.monitor.legs.get l) (slotMember (s.gait s.engine.current) s.sup.modes l) :=
  repark_leg ..

theorem movedRecord_contact (slot : Slot) (c : LegContact) (p : Option (Member × Bool)) :
    (movedRecord slot c p).contact = c.contact ∧ (movedRecord slot c p).onCount = c.onCount
    ∧ (movedRecord slot c p).offCount = c.offCount ∧ (movedRecord slot c p).abandon = c.abandon := by
  cases p with
  | none => exact ⟨rfl, rfl, rfl, rfl⟩
  | some p =>
    rw [movedRecord_some]
    split <;> exact ⟨rfl, rfl, rfl, rfl⟩

/-- What stands in the way of neither RELEASE nor RESUME: a legal entry and a ring that is UP. -/
abbrev StandReady (s : State) : Prop := legal (s.gait s.engine.current) s.sup.modes = true ∧ s.ring.up = true

/-- No leg stands in the way of RELEASE (R152). -/
abbrev LegsReady (s : State) : Prop := ∀ l, s.sup.modes.get l = .active ∨ s.sup.modes.get l = .strut →
  (s.limits.get l).isSome = true ∧ s.ring.lastFresh.get l = true

theorem legUnready_iff (s : State) (l : LegId) :
    s.legUnready l = false ↔ (s.sup.modes.get l = .active ∨ s.sup.modes.get l = .strut →
      (s.limits.get l).isSome = true ∧ s.ring.lastFresh.get l = true) := by
  unfold State.legUnready
  cases s.sup.modes.get l <;> simp [Option.isSome_iff_ne_none]

theorem releaseBlocked_iff (s : State) :
    (!s.ring.up || LegId.all.any s.legUnready || !legal (s.gait s.engine.current) s.sup.modes) = false
      ↔ StandReady s ∧ LegsReady s := by
  have hlegs : LegId.all.any s.legUnready = false ↔ LegsReady s := by
    rw [List.any_eq_false]
    exact ⟨fun h l => (legUnready_iff s l).mp (Bool.not_eq_true _ ▸ h l (by cases l <;> decide)),
      fun h l _ => by rw [(legUnready_iff s l).mpr (h l)]; exact Bool.false_ne_true⟩
  rw [Bool.or_eq_false_iff, Bool.or_eq_false_iff, hlegs, Bool.not_eq_false', Bool.not_eq_false']
  exact ⟨fun ⟨⟨hup, hl⟩, hlegal⟩ => ⟨⟨hlegal, hup⟩, hl⟩, fun ⟨⟨hlegal, hup⟩, hl⟩ => ⟨⟨hup, hl⟩, hlegal⟩⟩

/-- The state in which RELEASE has forgotten the contacts and started standing afresh. -/
def released (s : State) : State := (s.mapContacts fun _ c => c.forget).startStanding

theorem exec_release {s : State} {f : CmdFrame} (h : s.busyWith .release f) :
    (s.sup.op ≠ .config → exec .release s = .next (s.refuse f .state))
    ∧ (s.sup.op = .config → ¬(StandReady s ∧ LegsReady s) → exec .release s = .next (s.refuse f .notReady))
    ∧ (s.sup.op = .config → StandReady s ∧ LegsReady s →
        exec .release s = .next ((released s).multiFaultTest.reply f .done [])) := by
  have hexec : exec .release s = _ := completing_of_busy h _
  rw [hexec]
  simp only [checked_cons, checked_nil]
  refine ⟨fun hop => ?_, fun hop hblocked => ?_, fun hop hready => ?_⟩
  · rw [if_pos (by simp [hop])]
  · rw [if_neg (by simp [hop]), if_pos (by rw [← Bool.not_eq_false, releaseBlocked_iff]; exact hblocked)]
  · rw [if_neg (by simp [hop]), (releaseBlocked_iff s).mpr hready]
    rfl

theorem resumeBlocked_iff (s : State) :
    (decide (0 < faultedCount s.sup.modes) || !legal (s.gait s.engine.current) s.sup.modes || !s.ring.up) = false
      ↔ StandReady s ∧ faultedCount s.sup.modes = 0 := by
  rw [Bool.or_eq_false_iff, Bool.or_eq_false_iff, Bool.not_eq_false', Bool.not_eq_false', decide_eq_false_iff_not, Nat.not_lt,
    Nat.le_zero]
  exact ⟨fun ⟨⟨hcount, hlegal⟩, hup⟩ => ⟨⟨hlegal, hup⟩, hcount⟩,
    fun ⟨⟨hlegal, hup⟩, hcount⟩ => ⟨⟨hcount, hlegal⟩, hup⟩⟩

theorem exec_resume {s : State} {f : CmdFrame} (h : s.busyWith .resume f) :
    (s.sup.op ≠ .safe → exec .resume s = .next (s.refuse f .state))
    ∧ (s.sup.op = .safe → ¬(StandReady s ∧ faultedCount s.sup.modes = 0) → exec .resume s = .next (s.refuse f .notReady))
    ∧ (s.sup.op = .safe → StandReady s ∧ faultedCount s.sup.modes = 0 →
        exec .resume s = .next (s.startStanding.reply f .done [])) := by
  have hexec : exec .resume s = _ := completing_of_busy h _
  rw [hexec]
  simp only [checked_cons, checked_nil]
  refine ⟨fun hop => ?_, fun hop hblocked => ?_, fun hop hready => ?_⟩
  · rw [if_pos (by simp [hop])]
  · rw [if_neg (by simp [hop]), if_pos (by rw [← Bool.not_eq_false, resumeBlocked_iff]; exact hblocked)]
  · rw [if_neg (by simp [hop]), (resumeBlocked_iff s).mpr hready]
    rfl

/-- What RELEASE and RESUME leave alike, from the state `s` to the answered state `t`. -/
theorem standing_started {s r : State} {f : CmdFrame} (hr : r = { s with monitor := r.monitor }) :
    let t := r.startStanding.reply f .done []
    t.sup = { s.sup with op := .standing, posture := none }
    ∧ (∀ l, t.shaper.get l = { s.shaper.get l with prevValid := false })
    ∧ (∀ l, t.unit.reachHold.get l = 0)
    ∧ (∀ l m mirror, slotMember (s.gait s.engine.current) s.sup.modes l = some (m, mirror) →
        t.engine.slots.get l = parkedSlot (s.header m.bank).touchdown m mirror)
    ∧ (∀ l, slotMember (s.gait s.engine.current) s.sup.modes l = none → t.engine.slots.get l = restSlot)
    ∧ t.engine.rate = 0 ∧ t.engine.amp = s.engine.amp ∧ t.engine.master = s.engine.master
    ∧ t.balance = { s.balance with fallArm := true }
    ∧ (∀ l, (t.monitor.legs.get l).contact = (r.monitor.legs.get l).contact
        ∧ (t.monitor.legs.get l).onCount = (r.monitor.legs.get l).onCount
        ∧ (t.monitor.legs.get l).offCount = (r.monitor.legs.get l).offCount
        ∧ (t.monitor.legs.get l).abandon = (r.monitor.legs.get l).abandon)
    ∧ t.arbiter = s.arbiter ∧ t.ring = s.ring ∧ t.limits = s.limits ∧ t.banks = s.banks ∧ t.gaits = s.gaits
    ∧ t.link = (s.reply f .done []).link.post
        (newAlert .stateChange .none (.state .standing none) s.ring.tag (opCode s.sup.op)) := by
  generalize r.monitor = monitor at hr
  subst hr
  refine ⟨rfl, fun l => PerLeg.get_ofFn .., fun l => PerLeg.get_all .., fun l m mirror hm => ?_, fun l hm => ?_, rfl, rfl, rfl,
    rfl, fun l => ?_, rfl, rfl, rfl, rfl, rfl, repliedLink_post ..⟩
  · exact (startStanding_slot ..).trans (reparked_of_member (s := { s with monitor := monitor }) hm)
  · exact (startStanding_slot ..).trans (reparked_of_none (s := { s with monitor := monitor }) hm)
  · have hleg := startStanding_leg { s with monitor := monitor } l
    rw [State.reply_monitor, hleg]
    exact movedRecord_contact ..

/-- RELEASE with two legs FAULTED or more passes through STANDING into SAFE (R156). -/
theorem released_multiFaultTest {s : State} (hcount : 2 ≤ faultedCount s.sup.modes) (hpending : s.sup.resetPending = false) :
    (released s).multiFaultTest = safeMade (released s) .freeze .abandoned := by
  unfold State.multiFaultTest
  rw [if_pos (by exact hcount)]
  exact enterSafe_of_not_pending rfl (endOutcome_none _) hpending

theorem forgotten_leg (s : State) (l : LegId) :
    (s.mapContacts fun _ c => c.forget).monitor.legs.get l = (s.monitor.legs.get l).forget := State.mapContacts_legs ..

/-- Settles O43. -/
theorem releaseAndResumeStartStanding : Obligations.ReleaseAndResumeStartStanding := by
  intro s f c
  refine ⟨fun h => (exec_release h).1, fun h => (exec_release h).2.1, fun h => (exec_resume h).1, fun h => (exec_resume h).2.1,
    ?_, ?_⟩
  · rintro (⟨rfl, h, hop, hready, hlegs, hcount⟩ | ⟨rfl, h, hop, hready, hcount⟩)
    · have hone : (released s).multiFaultTest = released s := if_neg (by exact Nat.not_le.mpr (Nat.lt_succ_of_le hcount))
      obtain ⟨hsup, hshape, hhold, hslots, hrest, hrate, hamp, hmaster, hbalance, hleg, harb, hring, hlim, hbanks, hgaits, hlink⟩ :=
        standing_started (s := s) (r := s.mapContacts fun _ c => c.forget) (f := f) rfl
      refine ⟨_, by rw [(exec_release h).2.2 hop ⟨hready, hlegs⟩, hone]; rfl, hsup, hshape, hhold, hslots, hrest, hrate, hamp,
        hmaster, hbalance, fun _ l => ?_, fun hc => (nomatch hc), harb, hring, hlim, hbanks, hgaits, hlink⟩
      obtain ⟨h1, h2, h3, -⟩ := hleg l
      rw [forgotten_leg] at h1 h2 h3
      exact ⟨h1, h2, h3⟩
    · obtain ⟨hsup, hshape, hhold, hslots, hrest, hrate, hamp, hmaster, hbalance, hleg, hframe⟩ :=
        standing_started (s := s) (r := s) (f := f) rfl
      exact ⟨_, (exec_resume h).2.2 hop ⟨hready, hcount⟩, hsup, hshape, hhold, hslots, hrest, hrate, hamp, hmaster, hbalance,
        fun hc => (nomatch hc), fun _ l => (hleg l).1, hframe⟩
  · intro h hop hready hlegs hcount hstack hpending
    obtain ⟨-, hshape, hhold, hslots, hrest, -, -, -, -, hleg, -⟩ :=
      standing_started (s := s) (r := s.mapContacts fun _ c => c.forget) (f := f) rfl
    refine ⟨(safeMade (released s) .freeze .abandoned).reply f .done [], ?_, rfl, ?_, rfl, rfl, rfl, rfl, fun l => ?_,
      fun l => ⟨hshape l, ?_, ?_⟩, rfl, rfl, rfl, rfl, rfl, rfl, rfl⟩
    · rw [(exec_release h).2.2 hop ⟨hready, hlegs⟩, released_multiFaultTest hcount hpending]
    · show repliedLink f .done [] (SafeAlerts _ _ _ _) = _
      rw [repliedLink_safeAlerts]
      show SafeAlerts (released s) (repliedLink f .done [] (s.link.post
        (newAlert .stateChange .none (.state .standing none) s.ring.tag (opCode s.sup.op)))) .abandoned .freeze = _
      rw [repliedLink_post, hop]
      rfl
    · cases hm : slotMember (s.gait s.engine.current) s.sup.modes l with
      | none => exact hrest l hm
      | some p => exact hslots l p.1 p.2 hm
    · show (s.arbiter.stack.foldl settle (.all 0)).get l = 0
      rw [hstack]
      exact PerLeg.get_all ..
    · show PerLeg.get (.ofFn fun l => ((released s).monitor.legs.get l).abandon) l = _
      rw [PerLeg.get_ofFn]
      refine (hleg l).2.2.2.trans ?_
      rw [forgotten_leg]
      rfl

/-! ### Drive failures (R100, R155, R156) -/

theorem faultedCount_eq (a b c d : Mode) :
    faultedCount ⟨a, b, c, d⟩ = (a == .faulted).toNat + (b == .faulted).toNat + (c == .faulted).toNat + (d == .faulted).toNat := by
  unfold faultedCount
  show ([a, b, c, d].filter fun x => x == .faulted).length = _
  rw [← List.countP_eq_length_filter]
  simp only [List.countP_cons, List.countP_nil]
  generalize (a == Mode.faulted) = p, (b == Mode.faulted) = q, (c == Mode.faulted) = r, (d == Mode.faulted) = t
  revert p q r t
  decide

theorem faultedCount_set {m : PerLeg Mode} {l : LegId} (h : m.get l = .active) :
    faultedCount (m.set l .faulted) = faultedCount m + 1 := by
  obtain ⟨a, b, c, d⟩ := m
  cases l <;> simp only [PerLeg.get] at h <;> subst h <;> simp only [PerLeg.set, faultedCount_eq] <;>
    simp only [beq_self_eq_true, Bool.toNat_true, reduceCtorEq, beq_eq_false_iff_ne.mpr, ne_eq, not_false_eq_true, Bool.toNat_false] <;> omega

theorem faultedCount_pos {m : PerLeg Mode} {l : LegId} (h : m.get l = .faulted) : 1 ≤ faultedCount m := by
  obtain ⟨a, b, c, d⟩ := m
  cases l <;> simp only [PerLeg.get] at h <;> subst h <;> rw [faultedCount_eq, beq_self_eq_true, Bool.toNat_true] <;> omega

theorem slotMember_set_faulted_self (g : Option Gait) (m : PerLeg Mode) (l : LegId) : slotMember g (m.set l .faulted) l = none := by
  unfold slotMember
  rw [PerLeg.get_set_same]
  rfl

theorem slotMember_set_faulted_other (g : Option Gait) {m : PerLeg Mode} {l i : LegId} (h : m.get l = .active) (hi : i ≠ l) :
    slotMember g (m.set l .faulted) i = slotMember g m i := by
  unfold slotMember
  rw [PerLeg.get_set_ne _ _ hi, outLeg_congr (isOut_set_faulted h)]

/-- A leg that becomes FAULTED stops playing, and no other slot changes (R20, R155). -/
theorem changeMode_faulted_slots {s : State} {l : LegId} (h : s.sup.modes.get l = .active) (hs : SlotLaw s) :
    (s.changeMode l .faulted s.engine.current).engine.slots = s.engine.slots.set l restSlot := by
  obtain ⟨hfilled, -⟩ := hs
  refine PerLeg.ext_get fun i => ?_
  by_cases hi : i = l
  · subst hi
    rw [PerLeg.get_set_same]
    exact changeMode_slot_of_none (slotMember_set_faulted_self ..)
  · rw [PerLeg.get_set_ne _ _ hi]
    have hsame := slotMember_set_faulted_other (s.gait s.engine.current) h hi
    have hslot := hfilled i
    cases hm : slotMember (s.gait s.engine.current) s.sup.modes i with
    | none =>
      rw [hm] at hslot hsame
      exact (changeMode_slot_of_none hsame).trans (Eq.symm hslot)
    | some p =>
      rw [hm] at hslot hsame
      exact (changeMode_slot_of_current rfl hsame).trans (if_pos hslot)

theorem resetsAlike_changeMode_faulted {s : State} {l : LegId} (h : s.sup.modes.get l = .active) :
    ResetsAlike s (s.changeMode l .faulted s.engine.current) := by
  have hmodes (i : LegId) : resetMode ((s.sup.modes.set l .faulted).get i) = resetMode (s.sup.modes.get i) := by
    by_cases hi : i = l
    · subst hi; rw [PerLeg.get_set_same, h]; rfl
    · rw [PerLeg.get_set_ne _ _ hi]
  have hbaseline (i : LegId) : ((s.changeMode l .faulted s.engine.current).monitor.legs.get i).baseline
      = (s.monitor.legs.get i).baseline := by
    rw [changeMode_leg]
    cases slotMember (s.gait s.engine.current) (modesAfter s l .faulted) i with
    | none => rfl
    | some p => rw [movedRecord_some]; split <;> rfl
  rw [changeMode_fields] at hbaseline ⊢
  exact ⟨hmodes, rfl, rfl, hbaseline, rfl, rfl, fun _ => rfl, rfl, rfl, rfl, rfl, .refl _⟩

theorem changeMode_raises (s : State) (leg : LegId) (m : Mode) (n : Nat) :
    (s.changeMode leg m n).wires.raises = s.wires.raises := by
  rw [changeMode_eq]
  unfold State.reportParked
  split <;> split <;> rfl

/-- The drive failure of an ACTIVE leg is its change of mode and what the raise and the test of R156 bring. -/
theorem driveFailure_active {s : State} {l : LegId} (h : s.sup.modes.get l = .active) (value : Int) (first : Bool) :
    Taken (s.changeMode l .faulted s.engine.current) (s.driveFailure l value first)
    ∧ (1 ≤ faultedCount s.sup.modes → ∃ v r, ArbiterOnly (s.changeMode l .faulted s.engine.current) v
        ∧ s.driveFailure l value first = v.enterSafe .freeze r)
    ∧ (faultedCount s.sup.modes = 0 → first = false →
        s.driveFailure l value first = (s.changeMode l .faulted s.engine.current).sendRaise l.num value) := by
  have hcount : faultedCount (s.changeMode l .faulted s.engine.current).sup.modes = faultedCount s.sup.modes + 1 := by
    rw [changeMode_fields]
    exact faultedCount_set h
  have hsent (v : Int) : Taken (s.changeMode l .faulted s.engine.current) ((s.changeMode l .faulted s.engine.current).sendRaise l.num v) :=
    .inl (arbiterOnly_wires ..)
  unfold State.driveFailure
  rw [h]
  dsimp only
  refine ⟨?_, fun hone => ?_, fun hzero hfirst => ?_⟩
  · refine taken_multiFaultTest ?_
    split
    · exact taken_takeRaise ..
    · exact hsent value
  · refine multiFaultTest_safe ?_ (by rw [hcount]; exact Nat.succ_le_succ hone)
    split
    · exact taken_takeRaise ..
    · exact hsent value
  · rw [hfirst]
    exact if_neg (by show ¬2 ≤ faultedCount (s.changeMode l .faulted s.engine.current).sup.modes; omega)

/-- What the arbiter's takings and an entry into SAFE leave of the stride, while no reset is pending. -/
structure StrideKept (s t : State) : Prop where
  modes   : t.sup.modes = s.sup.modes
  slots   : t.engine.slots = s.engine.slots
  current : t.engine.current = s.engine.current
  master  : t.engine.master = s.engine.master
  shaper  : t.shaper = s.shaper
  ring    : t.ring = s.ring
  banks   : t.banks = s.banks
  gaits   : t.gaits = s.gaits
  limits  : t.limits = s.limits

theorem ArbiterOnly.strideKept {s u : State} (h : ArbiterOnly s u) : StrideKept s u := by
  rw [h.frame]
  exact ⟨rfl, rfl, rfl, rfl, rfl, rfl, rfl, rfl, rfl⟩

theorem Taken.strideKept {s t : State} (h : Taken s t) (hpending : s.sup.resetPending = false) : StrideKept s t := by
  obtain h | ⟨v, r, hv, rfl⟩ := h
  · exact h.strideKept
  · cases hlive : v.sup.op.isLive with
    | false => rw [enterSafe_of_not_live _ _ _ hlive]; exact hv.strideKept
    | true =>
      obtain ⟨top, htop⟩ := exists_endOutcome_top v r
      obtain ⟨h1, h2, h3, h4, h5, h6, h7, h8, h9⟩ := hv.strideKept
      rw [enterSafe_of_not_pending hlive htop (by rw [hv.sup]; exact hpending)]
      exact ⟨h1, h2, h3, h4, h5, h6, h7, h8, h9⟩

/-- A drive status of FAULT and a stale-limit report are drive failures, from the state with the report taken off its wire. -/
def FailureOf (s s0 : State) (l : LegId) (first : Bool) (c : Instr) (value : Int) : Prop :=
  exec c s = .next (s0.driveFailure l value first) ∧ s0 = { s with wires := s0.wires } ∧ s0.wires.raises = s.wires.raises

theorem failureOf_driveStatus {s : State} {l : LegId} (first : Bool) {b : Byte} {rest : List Byte}
    (h : s.wires.driveStatus.get l = b :: rest) (hb : b ≠ 0) :
    FailureOf s { s with wires := { s.wires with driveStatus := s.wires.driveStatus.set l rest } } l first (.driveStatus l first)
      (Config.driveStatusValue b) := by
  refine ⟨?_, rfl, rfl⟩
  show execDriveStatus l first s = _
  unfold execDriveStatus State.takeDriveStatus
  rw [h]
  dsimp only
  rw [if_pos (by simpa [statusIsFault] using hb)]

theorem failureOf_staleReport {s : State} {l : LegId} (first : Bool) {n : Nat} {rest : List Nat}
    (h : s.wires.staleReports.get l = n :: rest) :
    FailureOf s { s with wires := { s.wires with staleReports := s.wires.staleReports.set l rest } } l first (.staleLimit l first) n := by
  refine ⟨?_, rfl, rfl⟩
  show execStaleLimit l first s = _
  unfold execStaleLimit
  rw [h]

/-- Settles O15. -/
theorem driveFailureFaultsActiveLeg : Obligations.DriveFailureFaultsActiveLeg := by
  intro s l first c value hactive hpending hs hcause
  obtain ⟨s0, hexec, hs0, hraises⟩ : ∃ s0, FailureOf s s0 l first c value := by
    obtain ⟨b, rest, h, hb, rfl, rfl⟩ | ⟨n, rest, h, rfl, rfl⟩ := hcause
    · exact ⟨_, failureOf_driveStatus first h hb⟩
    · exact ⟨_, failureOf_staleReport first h⟩
  have hactive0 : s0.sup.modes.get l = .active := by rw [hs0]; exact hactive
  have hslots : (s0.changeMode l .faulted s0.engine.current).engine.slots = s.engine.slots.set l restSlot := by
    rw [changeMode_faulted_slots hactive0 (by rw [hs0]; exact hs), hs0]
  obtain ⟨htaken, -, hsent⟩ := driveFailure_active hactive0 value first
  have hkept : StrideKept (s0.changeMode l .faulted s0.engine.current) (s0.driveFailure l value first) := by
    obtain hp | ⟨hzero, hfirst⟩ := hpending
    · exact htaken.strideKept (by rw [changeMode_fields, hs0]; exact hp)
    · rw [hsent (by rw [hs0]; exact hzero) hfirst]
      exact (arbiterOnly_wires ..).strideKept
  obtain ⟨hmodes, hslots', hcurrent, hmaster, hshaper, hring, hbanks, hgaits, hlimits⟩ := hkept
  refine ⟨_, hexec, ?_, hslots'.trans hslots, ?_, ?_, ?_, ?_, ?_, ?_, ?_, fun hzero hfirst => ?_⟩
  · rw [hmodes, changeMode_fields, hs0]; rfl
  · rw [hcurrent, changeMode_fields, hs0]
  · rw [hmaster, changeMode_fields, hs0]
  · rw [hbanks, changeMode_fields, hs0]; rfl
  · rw [hgaits, changeMode_fields, hs0]; rfl
  · rw [hlimits, changeMode_fields, hs0]; rfl
  · rw [hring, changeMode_fields, hs0]; rfl
  · rw [hshaper, changeMode_fields, hs0]; rfl
  · have hraised : (s0.changeMode l .faulted s0.engine.current).wires.raises = s.wires.raises :=
      (changeMode_raises ..).trans hraises
    rw [hsent (by rw [hs0]; exact hzero) hfirst]
    unfold State.sendRaise
    rw [hraised, changeMode_fields, hs0]
    have hunit : s.sup.modes.get l ≠ .faulted := by rw [hactive]; exact nofun
    exact ⟨rfl, congrArg ActionUnit.reachHold (if_neg hunit), rfl, rfl, rfl, rfl⟩

/-- What a drive failure that brings SAFE leaves (R96, R100, R156), with a reset pending or not. -/
theorem driveFailure_second {s0 s : State} {l m : LegId} (value : Int) (first : Bool) (hs0 : s0 = { s with wires := s0.wires })
    (hactive : s.sup.modes.get l = .active) (hml : m ≠ l) (hfaulted : s.sup.modes.get m = .faulted) (hlive : s.sup.op.isLive = true) :
    let t := s0.driveFailure l value first
    (s.sup.resetPending = false →
      t.sup.op = .safe ∧ t.sup.posture = some .freeze ∧ t.sup.modes.get l = .faulted ∧ t.sup.modes.get m = .faulted
      ∧ t.arbiter.stack = [] ∧ t.arbiter.pending = 0 ∧ t.arbiter.level = 0 ∧ t.engine.rate = 0)
    ∧ (s.sup.resetPending = true → SoftResetLeaves s t) := by
  have hactive0 : s0.sup.modes.get l = .active := by rw [hs0]; exact hactive
  obtain ⟨-, hsafe, -⟩ := driveFailure_active hactive0 value first
  obtain ⟨v, r, hv, ht⟩ := hsafe (by rw [hs0]; exact faultedCount_pos hfaulted)
  have hsup : v.sup = { s.sup with modes := s.sup.modes.set l .faulted } := by rw [hv.sup, changeMode_fields, hs0]; rfl
  have hlive' : v.sup.op.isLive = true := by rw [hsup]; exact hlive
  have halike : ResetsAlike s v := by
    have hwires : ResetsAlike s s0 := by rw [hs0]; exact resetsAlike_wires ..
    exact (hwires.trans (resetsAlike_changeMode_faulted hactive0)).trans hv.resetsAlike
  obtain ⟨top, htop⟩ := exists_endOutcome_top v r
  dsimp only
  rw [ht]
  refine ⟨fun hp => ?_, fun hp => (enterSafe_of_pending hlive' htop (by rw [hsup]; exact hp) halike).1⟩
  rw [enterSafe_of_not_pending hlive' htop (by rw [hsup]; exact hp)]
  have hmodes : (safeMade v .freeze top).sup.modes = s.sup.modes.set l .faulted := by
    show v.sup.modes = _
    rw [hsup]
  rw [hmodes, PerLeg.get_set_same, PerLeg.get_set_ne _ _ hml]
  exact ⟨rfl, rfl, rfl, hfaulted, rfl, rfl, rfl, rfl⟩

theorem driveFailure_faulted {s : State} {l : LegId} {value : Int} {first : Bool} (h : s.sup.modes.get l = .faulted) :
    s.driveFailure l value first = s := by
  unfold State.driveFailure; rw [h]

theorem driveFailure_stowed {s : State} {l : LegId} {value : Int} {first : Bool} (h : s.sup.modes.get l = .stowed) :
    s.driveFailure l value first = s.alert .legFault (.leg l) (.mode .stowed) 0 := by
  unfold State.driveFailure; rw [h]

theorem driveFailure_strut {s : State} {l : LegId} {value : Int} {first : Bool} (h : s.sup.modes.get l = .strut) :
    s.driveFailure l value first = (s.alert .legFault (.leg l) (.mode .strut) 0).enterSafe .freeze none := by
  unfold State.driveFailure; rw [h]

/-- A drive failure of a leg that is not ACTIVE (R155). -/
theorem driveFailure_inactive {s0 s : State} {l : LegId} (value : Int) (first : Bool) (hs0 : s0 = { s with wires := s0.wires }) :
    let fault (m : Mode) : Link := s.link.post (newAlert .legFault (.leg l) (.mode m) s.ring.tag 0)
    let t := s0.driveFailure l value first
    (s.sup.modes.get l = .faulted → t = s0)
    ∧ (s.sup.modes.get l = .stowed → t = { s0 with link := fault .stowed })
    ∧ (s.sup.modes.get l = .strut → s.sup.op.isLive = false → t = { s0 with link := fault .strut })
    ∧ (s.sup.modes.get l = .strut → s.sup.op.isLive = true →
        let entered := SafeAlerts s (fault .strut) .abandoned .freeze
        t.wires = s0.wires
        ∧ (s.sup.resetPending = false →
            t.sup = { s.sup with op := .safe, posture := some .freeze } ∧ t.link = entered
            ∧ t.arbiter = { s.arbiter with stack := [], pending := 0, level := 0 }
            ∧ t.engine = { s.engine with rate := 0, holdOff := 0, pendingGait := none }
            ∧ t.shaper = s.shaper ∧ t.ring = s.ring)
        ∧ (s.sup.resetPending = true → SoftResetLeaves s t ∧ t.link = ResetAlerts entered s.ring.tag .safe [])) := by
  generalize s0.wires = w at hs0
  subst hs0
  refine ⟨fun h => driveFailure_faulted h, fun h => driveFailure_stowed h, fun h hrest => ?_, fun h hlive => ?_⟩
  · exact (driveFailure_strut (s := { s with wires := w }) h).trans (enterSafe_of_not_live _ _ _ hrest)
  · dsimp only
    rw [driveFailure_strut (s := { s with wires := w }) h]
    refine ⟨?_, fun hp => ?_, fun hp => ?_⟩
    · rw [enterSafe_eq (by exact hlive) (endOutcome_none _)]
      split
      · rw [applyReset_wires]; rfl
      · rfl
    · rw [enterSafe_of_not_pending (by exact hlive) (endOutcome_none _) (by exact hp)]
      exact ⟨rfl, rfl, rfl, rfl, rfl, rfl⟩
    · refine enterSafe_of_pending hlive (endOutcome_none _) hp ?_
      exact (resetsAlike_wires s w).trans (arbiterOnly_alert ..).resetsAlike

/-- Settles O16. -/
theorem laterDriveFailures : Obligations.LaterDriveFailures := by
  refine ⟨fun s l m first c hactive hml hfaulted hlive hcause => ?_, fun s l first rest h => ?_,
    fun s s0 l first c hcause => ?_⟩
  · obtain ⟨b, rest, h, hb, rfl⟩ | ⟨n, rest, h, rfl⟩ := hcause
    · exact ⟨_, (failureOf_driveStatus first h hb).1, driveFailure_second _ first rfl hactive hml hfaulted hlive⟩
    · exact ⟨_, (failureOf_staleReport first h).1, driveFailure_second _ first rfl hactive hml hfaulted hlive⟩
  · show execDriveStatus l first s = _
    unfold execDriveStatus State.takeDriveStatus
    rw [h]
    rfl
  · obtain ⟨value, hexec, hs0, -⟩ : ∃ value, FailureOf s s0 l first c value := by
      obtain ⟨b, rest, h, hb, rfl, rfl⟩ | ⟨n, rest, h, rfl, rfl⟩ := hcause
      · exact ⟨_, failureOf_driveStatus first h hb⟩
      · exact ⟨_, failureOf_staleReport first h⟩
    obtain ⟨hfaulted, hstowed, hrest, hsafe⟩ := driveFailure_inactive (l := l) value first hs0
    exact ⟨fun h => hexec.trans (congrArg _ (hfaulted h)), fun h => hexec.trans (congrArg _ (hstowed h)),
      fun h hno => hexec.trans (congrArg _ (hrest h hno)), fun h hlive => ⟨_, hexec, hsafe h hlive⟩⟩

end Sys2Proof.Machine
end

section
/-! ## A leg slot in the statements' terms (R45 to R60) -/
namespace Sys2Proof.Machine

-- One proof after another: side by side they take more threads than the memory limit of the check allows.
set_option Elab.async false

/-! ### The classification (R46, R47) -/

/-- The factor of the thresholds for a leg that a slot has aged (R46). -/
def slotFactor (s : State) (l : LegId) : Int :=
  if s.monitor.settings.maxAge < min ((s.monitor.legs.get l).age + 1) 65535 then 2 else 1

/-- The load of a record (R46). -/
def slotLoad (s : State) (l : LegId) (r : LegRec) : Int := (r.force : Int) - (s.monitor.legs.get l).baseline

/-- The on counter after a fresh record (R47). -/
def slotOn (s : State) (l : LegId) (r : LegRec) : Nat :=
  if slotFactor s l * s.monitor.settings.onThreshold ≤ slotLoad s l r then min ((s.monitor.legs.get l).onCount + 1) 8 else 0

/-- The off counter after a fresh record (R47). -/
def slotOff (s : State) (l : LegId) (r : LegRec) : Nat :=
  if slotFactor s l * s.monitor.settings.onThreshold ≤ slotLoad s l r then 0
  else if slotLoad s l r < slotFactor s l * s.monitor.settings.offThreshold then min ((s.monitor.legs.get l).offCount + 1) 8 else 0

/-- The record after stage 3. -/
def judgedRecord (s : State) (l : LegId) (r : LegRec) : LegContact := (agedRecord s l).classified s.monitor.settings r.force

section
variable (s : State) (l : LegId) (r : LegRec)

theorem counted_agedRecord :
    (agedRecord s l).counted s.monitor.settings r.force
      = { agedRecord s l with onCount := slotOn s l r, offCount := slotOff s l r } := by
  have hfactor (n : Nat) : ((thresholdFactor (degraded (agedRecord s l) s.monitor.settings.maxAge) * n : Nat) : Int)
      = slotFactor s l * n := by
    unfold slotFactor thresholdFactor degraded
    rw [show (agedRecord s l).age = min ((s.monitor.legs.get l).age + 1) 65535 from satSucc_eq ..]
    by_cases h : s.monitor.settings.maxAge < min ((s.monitor.legs.get l).age + 1) 65535 <;> simp [h]
  unfold LegContact.counted slotOn slotOff
  dsimp only
  rw [hfactor, hfactor, show (agedRecord s l).load r.force = slotLoad s l r from rfl, satSucc_eq, satSucc_eq]
  by_cases hon : slotFactor s l * s.monitor.settings.onThreshold ≤ slotLoad s l r
  · simp only [if_pos hon]; rfl
  · by_cases hoff : slotLoad s l r < slotFactor s l * s.monitor.settings.offThreshold
    · simp only [if_neg hon, if_pos hoff]; rfl
    · simp only [if_neg hon, if_neg hoff]

/-- The record completes the on count of a leg that is not LOADED. -/
abbrev BecomesLoaded : Prop := (s.monitor.legs.get l).contact ≠ .loaded ∧ s.monitor.settings.onCount ≤ slotOn s l r

/-- The record completes the off count of a leg that is not UNLOADED. -/
abbrev BecomesUnloaded : Prop :=
  (s.monitor.legs.get l).contact ≠ .unloaded ∧ s.monitor.settings.offCount ≤ slotOff s l r
  ∧ ¬((s.monitor.legs.get l).contact = .unknown ∧ s.monitor.settings.onCount ≤ slotOn s l r)

variable {s l r}

theorem judgedRecord_of_loaded (h : BecomesLoaded s l r) :
    judgedRecord s l r = { agedRecord s l with contact := .loaded, onCount := 0, offCount := 0, unloadArm := true } := by
  obtain ⟨hne, hon⟩ := h
  unfold judgedRecord LegContact.classified
  rw [counted_agedRecord]
  have hnext : ({ agedRecord s l with onCount := slotOn s l r, offCount := slotOff s l r } : LegContact).nextContact
      s.monitor.settings = .loaded := by
    unfold LegContact.nextContact
    show (match (s.monitor.legs.get l).contact with | .unknown => _ | .unloaded => _ | .loaded => _) = _
    cases hc : (s.monitor.legs.get l).contact with
    | unknown => exact if_pos hon
    | unloaded => exact if_pos hon
    | loaded => exact absurd hc hne
  dsimp only
  rw [hnext, if_neg (by rw [agedRecord_contact]; exact Ne.symm hne)]
  simp

theorem judgedRecord_of_unloaded (h : BecomesUnloaded s l r) :
    judgedRecord s l r = { agedRecord s l with contact := .unloaded, onCount := 0, offCount := 0 } := by
  obtain ⟨hne, hoff, hon⟩ := h
  unfold judgedRecord LegContact.classified
  rw [counted_agedRecord]
  have hnext : ({ agedRecord s l with onCount := slotOn s l r, offCount := slotOff s l r } : LegContact).nextContact
      s.monitor.settings = .unloaded := by
    unfold LegContact.nextContact
    show (match (s.monitor.legs.get l).contact with | .unknown => _ | .unloaded => _ | .loaded => _) = _
    cases hc : (s.monitor.legs.get l).contact with
    | unknown => exact (if_neg fun h => hon ⟨hc, h⟩).trans (if_pos hoff)
    | unloaded => exact absurd hc hne
    | loaded => exact if_pos hoff
  dsimp only
  rw [hnext, if_neg (by rw [agedRecord_contact]; exact Ne.symm hne)]
  simp

theorem judgedRecord_of_same (hon : ¬BecomesLoaded s l r) (hoff : ¬BecomesUnloaded s l r) :
    judgedRecord s l r = { agedRecord s l with onCount := slotOn s l r, offCount := slotOff s l r } := by
  unfold judgedRecord LegContact.classified
  rw [counted_agedRecord]
  refine if_pos ?_
  unfold LegContact.nextContact
  show (match (s.monitor.legs.get l).contact with | .unknown => _ | .unloaded => _ | .loaded => _) = (s.monitor.legs.get l).contact
  cases hc : (s.monitor.legs.get l).contact with
  | unknown =>
    have hlow : ¬s.monitor.settings.onCount ≤ slotOn s l r := fun h => hon ⟨by rw [hc]; exact nofun, h⟩
    exact (if_neg hlow).trans (if_neg fun h => hoff ⟨by rw [hc]; exact nofun, h, fun ⟨_, h'⟩ => hlow h'⟩)
  | unloaded => exact if_neg fun h => hon ⟨by rw [hc]; exact nofun, h⟩
  | loaded => exact if_neg fun h => hoff ⟨by rw [hc]; exact nofun, h, fun ⟨h', _⟩ => by rw [hc] at h'; cases h'⟩

end

/-! ### The stages that follow -/

theorem captured_none {c : LegContact} (h : c.capture = none) (swing : Bool) (force : Nat) : c.captured swing force = c := by
  unfold LegContact.captured; rw [h]

/-- Stage 4 leaves what stage 3 has judged. -/
theorem captured_keeps (c : LegContact) (swing : Bool) (force : Nat) :
    ∃ baseline age capture arm, c.captured swing force
      = { c with baseline := baseline, age := age, capture := capture, staleArm := arm } := by
  unfold LegContact.captured
  split
  · exact ⟨_, _, _, _, rfl⟩
  · split
    · exact ⟨c.baseline, c.age, none, c.staleArm, rfl⟩
    · split
      · split
        · exact ⟨_, _, _, _, rfl⟩
        · exact ⟨c.baseline, c.age, _, c.staleArm, rfl⟩
      · exact ⟨_, _, _, _, rfl⟩

theorem captured_of_changed {c : LegContact} (h : c.contact ≠ .unloaded) (swing : Bool) (force : Nat) :
    c.captured swing force = c.abandon := by
  unfold LegContact.captured
  split
  · next hnone =>
    unfold LegContact.abandon
    rw [← hnone]
  · exact if_pos h

section
variable {s : State} {l : LegId} {r : LegRec} {rest : List LegSlot}

/-- The answer to a leg's fresh record. -/
def freshTaken (s : State) (l : LegId) (r : LegRec) (rest : List LegSlot) : State := (s.dropSlot l rest).takeSlot l (.fresh r)

theorem exec_legRecord {slot : LegSlot} (h : s.wires.legSlots.get l = slot :: rest) :
    exec (.legRecord l) s = .next ((s.dropSlot l rest).takeSlot l slot) := by
  show execLegRecord l s = _
  unfold execLegRecord State.takeSlotIf
  rw [h]
  rfl

theorem takeSlotIf_of_due {slot : LegSlot} {due : LegSlot → Bool} (h : s.wires.legSlots.get l = slot :: rest)
    (hdue : due slot = true) : s.takeSlotIf l due = .next ((s.dropSlot l rest).takeSlot l slot) := by
  unfold State.takeSlotIf
  rw [h]
  exact if_pos hdue

theorem freshTaken_reached (s : State) (l : LegId) (r : LegRec) (rest : List LegSlot) :
    SlotReached l (s.dropSlot l rest) (freshTaken s l r rest) (freshRecord s l r)
      (staleRaises s l ++ detectedRaises s l r (capturedRecord s l r)) := slotReached_fresh (s.dropSlot l rest) l r

theorem freshTaken_record (s : State) (l : LegId) (r : LegRec) (rest : List LegSlot) :
    (freshTaken s l r rest).monitor.legs.get l = freshRecord s l r := (freshTaken_reached ..).record

theorem freshTaken_raises (s : State) (l : LegId) (r : LegRec) (rest : List LegSlot) :
    (freshTaken s l r rest).wires.raises
      = s.wires.raises ++ (staleRaises s l ++ detectedRaises s l r (capturedRecord s l r)) := (freshTaken_reached ..).raises

theorem freshTaken_frame (s : State) (l : LegId) (r : LegRec) (rest : List LegSlot) :
    freshTaken s l r rest = { s with
      monitor := { s.monitor with legs := (freshTaken s l r rest).monitor.legs }
      unit := { s.unit with finished := (freshTaken s l r rest).unit.finished }
      wires := { s.wires with legSlots := s.wires.legSlots.set l rest, raises := (freshTaken s l r rest).wires.raises } } :=
  (freshTaken_reached s l r rest).frame

theorem freshTaken_others (s : State) (l : LegId) (r : LegRec) (rest : List LegSlot) (m : LegId) (hm : m ≠ l) :
    (freshTaken s l r rest).monitor.legs.get m = s.monitor.legs.get m := (freshTaken_reached ..).others m hm

/-- Stage 5 leaves the contact, the counters of stage 3 and what stage 4 has made of the baseline. -/
theorem freshRecord_keeps (s : State) (l : LegId) (r : LegRec) :
    let c := capturedRecord s l r
    (freshRecord s l r).contact = c.contact ∧ (freshRecord s l r).onCount = c.onCount ∧ (freshRecord s l r).offCount = c.offCount
    ∧ (freshRecord s l r).baseline = c.baseline ∧ (freshRecord s l r).age = c.age ∧ (freshRecord s l r).capture = c.capture
    ∧ (freshRecord s l r).staleArm = c.staleArm := ⟨rfl, rfl, rfl, rfl, rfl, rfl, rfl⟩

theorem capturedRecord_keeps (s : State) (l : LegId) (r : LegRec) :
    ∃ baseline age capture arm, capturedRecord s l r
      = { judgedRecord s l r with baseline := baseline, age := age, capture := capture, staleArm := arm } :=
  captured_keeps ..

theorem freshRecord_judged (s : State) (l : LegId) (r : LegRec) :
    (freshRecord s l r).contact = (judgedRecord s l r).contact ∧ (freshRecord s l r).onCount = (judgedRecord s l r).onCount
    ∧ (freshRecord s l r).offCount = (judgedRecord s l r).offCount := by
  obtain ⟨baseline, age, capture, arm, h⟩ := capturedRecord_keeps s l r
  unfold freshRecord
  rw [h]
  exact ⟨rfl, rfl, rfl⟩

theorem agedContact_eq (s : State) (l : LegId) : s.agedContact l = agedRecord s l := ageLeg_record s l

theorem exec_contactChange (h : s.wires.legSlots.get l = .fresh r :: rest)
    (hchange : (judgedRecord s l r).contact ≠ (s.monitor.legs.get l).contact) :
    exec (.contactChange l) s = .next (freshTaken s l r rest) := by
  refine takeSlotIf_of_due h ?_
  show (((s.agedContact l).classified s.monitor.settings r.force).contact != (s.agedContact l).contact) = true
  rw [agedContact_eq]
  exact bne_iff_ne.mpr hchange

end

theorem takeSlot_stale_unit (s : State) (l : LegId) : (s.takeSlot l .stale).unit = s.unit := by
  rw [takeSlot_stale]
  exact ageLeg_unit s l

/-- Settles O17. -/
theorem legSlotClassifiesContact : Obligations.LegSlotClassifiesContact := by
  refine ⟨fun s l rest h => ?_, fun s l r rest h => ?_⟩
  · have hreached := slotReached_stale (s.dropSlot l rest) l
    have hframe := hreached.frame
    rw [takeSlot_stale_unit] at hframe
    refine ⟨_, exec_legRecord h, ?_, hreached.others, hframe⟩
    rw [hreached.record]
    exact ⟨rfl, rfl, rfl, rfl, rfl, rfl, Bool.or_true _, Bool.or_true _, satSucc_eq .., rfl⟩
  · obtain ⟨hcontact, hon, hoff⟩ := freshRecord_judged s l r
    have hrecord := freshTaken_record s l r rest
    refine ⟨_, exec_legRecord h, fun hl => ?_, fun hu => ?_, fun hchange => ?_, fun hnl hnu => ?_, freshTaken_others s l r rest,
      freshTaken_frame s l r rest⟩
    · show ((freshTaken s l r rest).monitor.legs.get l).contact = _
      rw [hrecord, hcontact, judgedRecord_of_loaded (of_decide_eq_true hl)]
    · show ((freshTaken s l r rest).monitor.legs.get l).contact = _
      rw [hrecord, hcontact, judgedRecord_of_unloaded (of_decide_eq_true hu)]
    · show ((freshTaken s l r rest).monitor.legs.get l).onCount = 0 ∧ ((freshTaken s l r rest).monitor.legs.get l).offCount = 0 ∧ _
      rw [hrecord, hon, hoff]
      obtain hl | hu := hchange
      · have hl := of_decide_eq_true hl
        have hjudged := judgedRecord_of_loaded hl
        refine ⟨by rw [hjudged], by rw [hjudged], exec_contactChange h ?_⟩
        rw [hjudged]
        exact Ne.symm hl.1
      · have hu := of_decide_eq_true hu
        have hjudged := judgedRecord_of_unloaded hu
        refine ⟨by rw [hjudged], by rw [hjudged], exec_contactChange h ?_⟩
        rw [hjudged]
        exact Ne.symm hu.1
    · show ((freshTaken s l r rest).monitor.legs.get l).contact = _ ∧ ((freshTaken s l r rest).monitor.legs.get l).onCount = _
        ∧ ((freshTaken s l r rest).monitor.legs.get l).offCount = _
      rw [hrecord, hcontact, hon, hoff, judgedRecord_of_same (of_decide_eq_false hnl) (of_decide_eq_false hnu)]
      exact ⟨rfl, rfl, rfl⟩

/-! ### What the detections raise (R55 to R60) -/

theorem raiseIf_of_due {due : Prop} [Decidable due] (h : due) (line : Nat) (v : Int) (tag : Byte) :
    raiseIf due line v tag = [{ line := line, value := v, tag := tag }] := if_pos h

theorem raiseIf_congr {p q : Prop} [Decidable p] [Decidable q] (h : p ↔ q) (line : Nat) {v w : Int} (hv : v = w) (tag : Byte) :
    raiseIf p line v tag = if q then [{ line := line, value := w, tag := tag }] else [] := by
  rw [← hv]
  exact if_congr h rfl rfl

section
variable {s : State} {l : LegId} {r : LegRec} {rest : List LegSlot}

theorem mem_freshTaken_raises {x : Raise} (h : x ∈ detectedRaises s l r (capturedRecord s l r)) :
    x ∈ (freshTaken s l r rest).wires.raises := by
  rw [freshTaken_raises]
  exact List.mem_append_right _ (List.mem_append_right _ h)

theorem early_mem (h : earlyDue s l (s.monitor.legs.get l).contact (capturedRecord s l r)) :
    ({ line := 8 + l.num
       value := (fwd (s.engine.slots.get l).phase (s.header (s.engine.slots.get l).bank).touchdown : Nat), tag := s.ring.tag } : Raise)
      ∈ (freshTaken s l r rest).wires.raises := by
  refine mem_freshTaken_raises ?_
  simp only [detectedRaises, raiseIf_of_due h, List.mem_append, List.mem_singleton]
  exact .inl (.inl (.inl (.inl rfl)))

theorem missed_mem (h : missedDue s l (capturedRecord s l r)) :
    ({ line := 12 + l.num
       value := (fwd (s.header (s.engine.slots.get l).bank).touchdown (s.engine.slots.get l).phase : Nat), tag := s.ring.tag } : Raise)
      ∈ (freshTaken s l r rest).wires.raises := by
  refine mem_freshTaken_raises ?_
  simp only [detectedRaises, raiseIf_of_due h, List.mem_append, List.mem_singleton]
  exact .inl (.inl (.inl (.inr rfl)))

theorem unload_mem (h : unloadDue s l (s.monitor.legs.get l).contact (capturedRecord s l r)) :
    ({ line := 16 + l.num, value := slotLoad s l r, tag := s.ring.tag } : Raise) ∈ (freshTaken s l r rest).wires.raises := by
  refine mem_freshTaken_raises ?_
  simp only [detectedRaises, raiseIf_of_due h, List.mem_append, List.mem_singleton]
  exact .inl (.inl (.inr rfl))

theorem slip_mem (h : slipDue s l r.hf (capturedRecord s l r)) :
    ({ line := 20 + l.num, value := (s.hfError l r.hf : Nat), tag := s.ring.tag } : Raise) ∈ (freshTaken s l r rest).wires.raises := by
  refine mem_freshTaken_raises ?_
  simp only [detectedRaises, raiseIf_of_due h, List.mem_append, List.mem_singleton]
  exact .inl (.inr rfl)

theorem torque_mem (h : torqueDue s l r.torques (capturedRecord s l r)) :
    ({ line := 24 + l.num, value := (s.torqueOver l r.torques : Nat), tag := s.ring.tag } : Raise)
      ∈ (freshTaken s l r rest).wires.raises := by
  refine mem_freshTaken_raises ?_
  simp only [detectedRaises, raiseIf_of_due h, List.mem_append, List.mem_singleton]
  exact .inr rfl

theorem detectsAll_iff (s : State) (l : LegId) : s.detectsAll l = true ↔ s.sup.op.isLive = true ∧ s.sup.modes.get l = .active := by
  simp [State.detectsAll]

theorem detectsLoad_iff (s : State) (l : LegId) :
    s.detectsLoad l = true ↔ s.sup.op.isLive = true ∧ (s.sup.modes.get l = .active ∨ s.sup.modes.get l = .strut) := by
  simp [State.detectsLoad]

theorem unloadWindow_iff (s : State) (l : LegId) :
    s.unloadWindow l = true ↔ s.sup.modes.get l = .strut
      ∨ (s.sup.modes.get l = .active ∧ ((s.engine.slots.get l).parked.isSome = true
        ∨ ((s.engine.slots.get l).swing = false
          ∧ s.monitor.settings.lateMargin
              < fwd (s.header (s.engine.slots.get l).bank).touchdown (s.engine.slots.get l).phase
          ∧ s.monitor.settings.unloadMargin
              < fwd (s.engine.slots.get l).phase (s.header (s.engine.slots.get l).bank).liftoff))) := by
  unfold State.unloadWindow
  cases s.sup.modes.get l <;> simp [and_assoc]

/-- A leg that becomes LOADED finishes the PLANT that is top for it and has not finished (R110). -/
theorem freshTaken_finished (hloaded : BecomesLoaded s l r) {e : Entry} {below : List Entry} (hstack : s.arbiter.stack = e :: below)
    (hplant : e.action = .plant) (hleg : e.leg = some l) (hclear : s.unit.finished = .clear) :
    (freshTaken s l r rest).unit.finished = .reported .complete := by
  have haged : ((s.dropSlot l rest).ageLeg l).monitor.legs.get l = agedRecord s l := ageLeg_record (s.dropSlot l rest) l
  have hsettings := (slotTaken_ageLeg (s.dropSlot l rest) l).settings
  have harbiter := (slotTaken_ageLeg (s.dropSlot l rest) l).arbiter
  have hunit := ageLeg_unit (s.dropSlot l rest) l
  have hjudged : ((s.dropSlot l rest).ageLeg l).judgeLeg l r
      = ((((s.dropSlot l rest).ageLeg l).setContact l (judgedRecord s l r)).plantFound l).setContact l
        ((judgedRecord s l r).captured (((s.dropSlot l rest).ageLeg l).engine.slots.get l).swing r.force) := by
    unfold State.judgeLeg
    dsimp only
    rw [haged, hsettings]
    show State.setContact (if (agedRecord s l).contact ≠ .loaded ∧ (judgedRecord s l r).contact = .loaded then _ else _) _ _ = _
    rw [if_pos ⟨hloaded.1, by rw [judgedRecord_of_loaded hloaded]⟩]
    rfl
  have heq : freshTaken s l r rest = ((s.dropSlot l rest).ageLeg l).freshLeg l r := rfl
  rw [heq, freshLeg_eq, detectTorque_eq, detected_unit, detectSlip_eq, detected_unit, detectUnload_eq, detected_unit,
    detectMissed_eq, detected_unit, detectEarly_eq, detected_unit, hjudged]
  unfold State.plantFound
  have hstack' : (((s.dropSlot l rest).ageLeg l).setContact l (judgedRecord s l r)).arbiter.stack = e :: below := by
    show ((s.dropSlot l rest).ageLeg l).arbiter.stack = _
    rw [harbiter]
    exact hstack
  have hclear' : (((s.dropSlot l rest).ageLeg l).setContact l (judgedRecord s l r)).unit.finished = .clear := by
    show ((s.dropSlot l rest).ageLeg l).unit.finished = _
    rw [hunit]
    exact hclear
  rw [hstack']
  dsimp only
  rw [if_pos ⟨hplant, hleg, hclear'⟩]
  rfl

end

end Sys2Proof.Machine
end

section
/-! ## What a leg slot detects and captures (R47, R51 to R60, R110) -/
namespace Sys2Proof.Machine

-- One proof after another: side by side they take more threads than the memory limit of the check allows.
set_option Elab.async false

section
variable {s : State} {l : LegId} {r : LegRec} {rest : List LegSlot}

/-- The arms and counters of stage 5 as the stages before it leave them. -/
theorem capturedRecord_arms (s : State) (l : LegId) (r : LegRec) :
    let c := s.monitor.legs.get l
    let d := capturedRecord s l r
    d.contact = (judgedRecord s l r).contact ∧ d.earlyArm = c.earlyArm ∧ d.missedArm = c.missedArm
    ∧ d.unloadArm = (judgedRecord s l r).unloadArm ∧ d.slipCount = c.slipCount ∧ d.slipArm = c.slipArm
    ∧ d.torqueCount = c.torqueCount ∧ d.torqueArm = c.torqueArm := by
  obtain ⟨baseline, age, capture, arm, hd⟩ := capturedRecord_keeps s l r
  obtain ⟨now, on, off, unload, hj, -⟩ := (agedRecord s l).classified_cases s.monitor.settings r.force
  dsimp only
  rw [hd]
  refine ⟨rfl, ?_, ?_, rfl, ?_, ?_, ?_, ?_⟩ <;> (unfold judgedRecord; rw [hj]; rfl)

theorem judgedRecord_unloadArm (h : (judgedRecord s l r).contact = .unloaded) :
    (judgedRecord s l r).unloadArm = (s.monitor.legs.get l).unloadArm := by
  by_cases hl : BecomesLoaded s l r
  · rw [judgedRecord_of_loaded hl] at h; cases h
  · by_cases hu : BecomesUnloaded s l r
    · rw [judgedRecord_of_unloaded hu]; rfl
    · rw [judgedRecord_of_same hl hu]; rfl

theorem slotOn_high (h : slotFactor s l * s.monitor.settings.onThreshold ≤ slotLoad s l r) :
    slotOn s l r = min ((s.monitor.legs.get l).onCount + 1) 8 ∧ slotOff s l r = 0 := ⟨if_pos h, if_pos h⟩

theorem slotOn_low (h : slotLoad s l r < slotFactor s l * s.monitor.settings.onThreshold) : slotOn s l r = 0 :=
  if_neg (Int.not_le.mpr h)

theorem slotOff_low (hon : slotLoad s l r < slotFactor s l * s.monitor.settings.onThreshold)
    (hoff : slotLoad s l r < slotFactor s l * s.monitor.settings.offThreshold) :
    slotOff s l r = min ((s.monitor.legs.get l).offCount + 1) 8 := (if_neg (Int.not_le.mpr hon)).trans (if_pos hoff)

theorem slotOff_between (h : slotFactor s l * s.monitor.settings.offThreshold ≤ slotLoad s l r) : slotOff s l r = 0 := by
  unfold slotOff
  rw [if_neg (Int.not_lt.mpr h)]
  exact ite_self _

end

/-! ### Contact changes (R47, R56 to R58, R110) -/

/-- The record that completes the on count (R47, R56, R58, R110). -/
theorem leg_loaded {s : State} {l : LegId} {r : LegRec} {rest : List LegSlot} (h : s.wires.legSlots.get l = .fresh r :: rest)
    (hloaded : BecomesLoaded s l r) :
    let c := s.monitor.legs.get l
    let sl := s.engine.slots.get l
    let ahead := fwd sl.phase (s.header sl.bank).touchdown
    let t := freshTaken s l r rest
    exec (.contactChange l) s = .next t ∧ exec (.legRecord l) s = .next t
    ∧ (t.monitor.legs.get l).contact = .loaded ∧ (t.monitor.legs.get l).capture = none
    ∧ (t.monitor.legs.get l).unloadArm = true ∧ t.arbiter = s.arbiter
    ∧ (∀ e below, s.arbiter.stack = e :: below → e.action = .plant → e.leg = some l → s.unit.finished = .clear →
        t.unit.finished = .reported .complete)
    ∧ (s.sup.op.isLive = true → s.sup.modes.get l = .active → sl.swing = true → s.monitor.settings.earlyMargin < ahead →
        c.earlyArm = true →
        (t.monitor.legs.get l).earlyArm = false
        ∧ ({ line := 8 + l.num, value := ahead, tag := s.ring.tag } : Raise) ∈ t.wires.raises) := by
  have hjudged := judgedRecord_of_loaded hloaded
  obtain ⟨hcontact, hearly, -, hunload, -⟩ := capturedRecord_arms s l r
  have hcapture : (capturedRecord s l r).capture = none := by
    have habandon : capturedRecord s l r = (judgedRecord s l r).abandon :=
      captured_of_changed (c := judgedRecord s l r) (by rw [hjudged]; exact nofun) _ _
    rw [habandon]
    rfl
  have hnotdue : ¬unloadDue s l (s.monitor.legs.get l).contact (capturedRecord s l r) := fun hd => hloaded.1 hd.2.1
  dsimp only
  rw [freshTaken_record]
  refine ⟨exec_contactChange h (by rw [hjudged]; exact Ne.symm hloaded.1), exec_legRecord h, ?_, hcapture, ?_,
    (freshTaken_reached s l r rest).arbiter, fun e below hstack hplant hleg hclear =>
      freshTaken_finished hloaded hstack hplant hleg hclear, fun hlive hactive hswing hmargin harm => ?_⟩
  · show (capturedRecord s l r).contact = _
    rw [hcontact, hjudged]
  · show ((capturedRecord s l r).unloadArm && !decide _) = true
    rw [decide_eq_false hnotdue, hunload, hjudged]
    rfl
  · have hdue : earlyDue s l (s.monitor.legs.get l).contact (capturedRecord s l r) :=
      ⟨(detectsAll_iff s l).mpr ⟨hlive, hactive⟩, hloaded.1, by rw [hcontact, hjudged], hswing, hmargin, by rw [hearly]; exact harm⟩
    refine ⟨?_, early_mem hdue⟩
    show ((capturedRecord s l r).earlyArm && !decide _) = false
    rw [decide_eq_true hdue]
    exact Bool.and_false _

/-- A leg that loses its load where R58 has it. -/
theorem leg_unloaded {s : State} {l : LegId} {r : LegRec} {rest : List LegSlot} (h : s.wires.legSlots.get l = .fresh r :: rest)
    (hlive : s.sup.op.isLive = true) (hunloaded : BecomesUnloaded s l r) (hwas : (s.monitor.legs.get l).contact = .loaded)
    (harm : (s.monitor.legs.get l).unloadArm = true) (hwindow : s.unloadWindow l = true) :
    let t := freshTaken s l r rest
    exec (.contactChange l) s = .next t ∧ exec (.legRecord l) s = .next t
    ∧ (t.monitor.legs.get l).contact = .unloaded ∧ (t.monitor.legs.get l).unloadArm = false
    ∧ ({ line := 16 + l.num, value := slotLoad s l r, tag := s.ring.tag } : Raise) ∈ t.wires.raises := by
  have hjudged := judgedRecord_of_unloaded hunloaded
  obtain ⟨hcontact, -, -, hunload, -⟩ := capturedRecord_arms s l r
  have hmode := (unloadWindow_iff s l).mp hwindow
  have hload : s.detectsLoad l = true :=
    (detectsLoad_iff s l).mpr ⟨hlive, hmode.elim .inr fun ⟨hactive, _⟩ => .inl hactive⟩
  have hdue : unloadDue s l (s.monitor.legs.get l).contact (capturedRecord s l r) :=
    ⟨hload, hwas, by rw [hcontact, hjudged], hwindow, by rw [hunload, hjudged]; exact harm⟩
  dsimp only
  rw [freshTaken_record]
  refine ⟨exec_contactChange h (by rw [hjudged]; exact Ne.symm hunloaded.1), exec_legRecord h, ?_, ?_, unload_mem hdue⟩
  · show (capturedRecord s l r).contact = _
    rw [hcontact, hjudged]
  · show ((capturedRecord s l r).unloadArm && !decide _) = false
    rw [decide_eq_true hdue]
    exact Bool.and_false _

/-- A leg that is UNLOADED and whose record does not count as on stays UNLOADED. -/
theorem judgedRecord_stays_unloaded {s : State} {l : LegId} {r : LegRec} (hwas : (s.monitor.legs.get l).contact = .unloaded)
    (hlow : slotLoad s l r < slotFactor s l * s.monitor.settings.onThreshold) (hcount : 1 ≤ s.monitor.settings.onCount) :
    judgedRecord s l r = { agedRecord s l with onCount := slotOn s l r, offCount := slotOff s l r } := by
  refine judgedRecord_of_same (fun ⟨_, hon⟩ => ?_) fun ⟨hne, _⟩ => hne hwas
  rw [slotOn_low hlow] at hon
  omega

/-- A leg still UNLOADED past the late margin (R57). -/
theorem leg_missed {s : State} {l : LegId} {r : LegRec} {rest : List LegSlot} (h : s.wires.legSlots.get l = .fresh r :: rest)
    (hlive : s.sup.op.isLive = true) (hlow : slotLoad s l r < slotFactor s l * s.monitor.settings.onThreshold)
    (hwas : (s.monitor.legs.get l).contact = .unloaded) (hcount : 1 ≤ s.monitor.settings.onCount)
    (harm : (s.monitor.legs.get l).missedArm = true) (hactive : s.sup.modes.get l = .active)
    (hswing : (s.engine.slots.get l).swing = false) (hparked : (s.engine.slots.get l).parked = none)
    (hlate : s.monitor.settings.lateMargin
      < fwd (s.header (s.engine.slots.get l).bank).touchdown (s.engine.slots.get l).phase) :
    ∃ t, exec (.legRecord l) s = .next t
      ∧ (t.monitor.legs.get l).contact = .unloaded ∧ (t.monitor.legs.get l).missedArm = false
      ∧ ({ line := 12 + l.num
           value := (fwd (s.header (s.engine.slots.get l).bank).touchdown (s.engine.slots.get l).phase : Nat)
           tag := s.ring.tag } : Raise) ∈ t.wires.raises := by
  have hjudged := judgedRecord_stays_unloaded hwas hlow hcount
  obtain ⟨hcontact, -, hmissed, -⟩ := capturedRecord_arms s l r
  have hnow : (capturedRecord s l r).contact = .unloaded := by rw [hcontact, hjudged]; exact hwas
  have hdue : missedDue s l (capturedRecord s l r) :=
    ⟨(detectsAll_iff s l).mpr ⟨hlive, hactive⟩, hswing, hparked, hlate, hnow, by rw [hmissed]; exact harm⟩
  refine ⟨freshTaken s l r rest, exec_legRecord h, ?_, ?_, missed_mem hdue⟩ <;> rw [freshTaken_record]
  · exact hnow
  · show ((capturedRecord s l r).missedArm && !decide _) = false
    rw [decide_eq_true hdue]
    exact Bool.and_false _

/-! ### The torque above the limits (R60) -/

/-- A joint's torque magnitude where it is above its limit. -/
def torqueExcess (s : State) (l : LegId) (x : PerJoint Int) (j : JointId) : Nat :=
  match s.limits.get l with
  | some lims => if (lims.get j).torque < (x.get j).natAbs then (x.get j).natAbs else 0
  | none => 0

theorem torqueOver_eq (s : State) (l : LegId) (x : PerJoint Int) :
    s.torqueOver l x = max (torqueExcess s l x .ab) (max (torqueExcess s l x .hf) (torqueExcess s l x .kn)) := by
  unfold State.torqueOver torqueExcess
  cases s.limits.get l with
  | none => rfl
  | some lims =>
    simp only [overTorque, JointId.all, List.foldl_cons, List.foldl_nil]
    split <;> split <;> split <;> omega

theorem torqueExcess_le (s : State) (l : LegId) (x : PerJoint Int) (j : JointId) : torqueExcess s l x j ≤ s.torqueOver l x := by
  rw [torqueOver_eq]
  cases j <;> omega

theorem torqueOver_attained (s : State) (l : LegId) (x : PerJoint Int) : ∃ j, s.torqueOver l x = torqueExcess s l x j := by
  rw [torqueOver_eq]
  obtain h | h := Nat.le_total (torqueExcess s l x .ab) (max (torqueExcess s l x .hf) (torqueExcess s l x .kn))
  · rw [Nat.max_eq_right h]
    obtain h' | h' := Nat.le_total (torqueExcess s l x .hf) (torqueExcess s l x .kn)
    · exact ⟨.kn, Nat.max_eq_right h'⟩
    · exact ⟨.hf, Nat.max_eq_left h'⟩
  · exact ⟨.ab, Nat.max_eq_left h⟩

theorem torqueExcess_of_over {s : State} {l : LegId} {lims : PerJoint JointLimits} (hlims : s.limits.get l = some lims)
    {x : PerJoint Int} {j : JointId} (h : (lims.get j).torque < (x.get j).natAbs) : torqueExcess s l x j = (x.get j).natAbs := by
  unfold torqueExcess
  rw [hlims]
  exact if_pos h

theorem torqueExcess_pos {s : State} {l : LegId} {x : PerJoint Int} {j : JointId} (h : 0 < torqueExcess s l x j) :
    ∃ lims, s.limits.get l = some lims ∧ (lims.get j).torque < (x.get j).natAbs ∧ torqueExcess s l x j = (x.get j).natAbs := by
  unfold torqueExcess at h ⊢
  cases hlims : s.limits.get l with
  | none => rw [hlims] at h; cases h
  | some lims =>
    rw [hlims] at h
    dsimp only at h ⊢
    split at h
    · next hover => exact ⟨lims, rfl, hover, if_pos hover⟩
    · cases h

/-- The largest magnitude among the joints above their limits (R60). -/
theorem torqueOver_of_largest {s : State} {l : LegId} {lims : PerJoint JointLimits} {x : PerJoint Int} {j : JointId}
    (hlims : s.limits.get l = some lims) (hover : (lims.get j).torque < (x.get j).natAbs)
    (hmost : ∀ i, (lims.get i).torque < (x.get i).natAbs → (x.get i).natAbs ≤ (x.get j).natAbs) :
    s.torqueOver l x = (x.get j).natAbs ∧ 0 < s.torqueOver l x := by
  have hj := torqueExcess_le s l x j
  rw [torqueExcess_of_over hlims hover] at hj
  have hpos : 0 < s.torqueOver l x := by omega
  refine ⟨Nat.le_antisymm ?_ hj, hpos⟩
  obtain ⟨i, hi⟩ := torqueOver_attained s l x
  obtain ⟨lims', hlims', hover', heq⟩ := torqueExcess_pos (by rw [← hi]; exact hpos)
  rw [hlims] at hlims'
  cases hlims'
  rw [hi, heq]
  exact hmost i hover'

theorem torqueOver_pos_iff (s : State) (l : LegId) (x : PerJoint Int) :
    0 < s.torqueOver l x ↔ ∃ lims j, s.limits.get l = some lims ∧ (lims.get j).torque < (x.get j).natAbs := by
  constructor
  · intro h
    obtain ⟨j, hj⟩ := torqueOver_attained s l x
    obtain ⟨lims, hlims, hover, -⟩ := torqueExcess_pos (by rw [← hj]; exact h)
    exact ⟨lims, j, hlims, hover⟩
  · rintro ⟨lims, j, hlims, hover⟩
    have hle := torqueExcess_le s l x j
    rw [torqueExcess_of_over hlims hover] at hle
    omega

/-! ### Every raise of a leg slot (R51, R55 to R60) -/

theorem staleDue_iff (s : State) (l : LegId) :
    staleDue s (s.monitor.legs.get l) ↔ (s.monitor.legs.get l).age ≤ s.monitor.settings.maxAge
      ∧ s.monitor.settings.maxAge < min ((s.monitor.legs.get l).age + 1) 65535 ∧ (s.monitor.legs.get l).staleArm = true := by
  unfold staleDue degraded
  rw [decide_eq_false_iff_not, Nat.not_lt, decide_eq_true_eq,
    show (s.monitor.legs.get l).aged.age = min ((s.monitor.legs.get l).age + 1) 65535 from satSucc_eq ..]

theorem staleRaises_eq (s : State) (l : LegId) :
    staleRaises s l = raiseIf (staleDue s (s.monitor.legs.get l)) (28 + l.num)
      (min ((s.monitor.legs.get l).age + 1) 65535 : Nat) s.ring.tag := by
  unfold staleRaises
  dsimp only
  rw [satSucc_eq]
  rfl

section
variable (s : State) (l : LegId) (r : LegRec)

theorem earlyDue_iff :
    earlyDue s l (s.monitor.legs.get l).contact (capturedRecord s l r)
      ↔ (s.sup.op.isLive = true ∧ s.sup.modes.get l = .active) ∧ (s.monitor.legs.get l).contact ≠ .loaded
        ∧ (freshRecord s l r).contact = .loaded ∧ (s.engine.slots.get l).swing = true
        ∧ s.monitor.settings.earlyMargin < fwd (s.engine.slots.get l).phase (s.header (s.engine.slots.get l).bank).touchdown
        ∧ (s.monitor.legs.get l).earlyArm = true := by
  obtain ⟨-, hearly, -⟩ := capturedRecord_arms s l r
  unfold earlyDue
  rw [detectsAll_iff, hearly]
  rfl

theorem missedDue_iff :
    missedDue s l (capturedRecord s l r)
      ↔ (s.sup.op.isLive = true ∧ s.sup.modes.get l = .active) ∧ (s.engine.slots.get l).swing = false
        ∧ (s.engine.slots.get l).parked = none
        ∧ s.monitor.settings.lateMargin < fwd (s.header (s.engine.slots.get l).bank).touchdown (s.engine.slots.get l).phase
        ∧ (freshRecord s l r).contact = .unloaded ∧ (s.monitor.legs.get l).missedArm = true := by
  obtain ⟨-, -, hmissed, -⟩ := capturedRecord_arms s l r
  unfold missedDue
  rw [detectsAll_iff, hmissed]
  rfl

theorem unloadDue_iff :
    unloadDue s l (s.monitor.legs.get l).contact (capturedRecord s l r)
      ↔ (s.sup.op.isLive = true ∧ (s.sup.modes.get l = .active ∨ s.sup.modes.get l = .strut))
        ∧ (s.monitor.legs.get l).contact = .loaded ∧ (freshRecord s l r).contact = .unloaded
        ∧ (s.monitor.legs.get l).unloadArm = true
        ∧ (s.sup.modes.get l = .strut ∨ (s.engine.slots.get l).parked.isSome = true
          ∨ ((s.engine.slots.get l).swing = false
            ∧ s.monitor.settings.lateMargin < fwd (s.header (s.engine.slots.get l).bank).touchdown (s.engine.slots.get l).phase
            ∧ s.monitor.settings.unloadMargin
              < fwd (s.engine.slots.get l).phase (s.header (s.engine.slots.get l).bank).liftoff)) := by
  obtain ⟨hcontact, -, -, hunload, -⟩ := capturedRecord_arms s l r
  unfold unloadDue
  rw [detectsLoad_iff, unloadWindow_iff]
  constructor
  · rintro ⟨⟨hlive, hmode⟩, hwas, hnow, hwindow, harm⟩
    rw [hunload, judgedRecord_unloadArm (hcontact.symm.trans hnow)] at harm
    exact ⟨⟨hlive, hmode⟩, hwas, hnow, harm, hwindow.imp_right And.right⟩
  · rintro ⟨⟨hlive, hmode⟩, hwas, hnow, harm, hwindow⟩
    refine ⟨⟨hlive, hmode⟩, hwas, hnow, ?_, ?_⟩
    · obtain hactive | hstrut := hmode
      · exact hwindow.imp_right fun h => ⟨hactive, h⟩
      · exact .inl hstrut
    · rw [hunload, judgedRecord_unloadArm (hcontact.symm.trans hnow)]
      exact harm

theorem slips_iff (now : Contact) :
    slips s l r.hf now ↔ (s.sup.op.isLive = true ∧ s.sup.modes.get l = .active) ∧ (s.engine.slots.get l).swing = false
      ∧ now = .loaded ∧ (s.shaper.get l).prevValid = true
      ∧ s.monitor.settings.slipThreshold < (r.hf - (s.shaper.get l).prev.hf).natAbs := by
  unfold slips
  rw [detectsAll_iff]
  rfl

theorem slipDue_iff :
    slipDue s l r.hf (capturedRecord s l r)
      ↔ (s.sup.op.isLive = true ∧ s.sup.modes.get l = .active) ∧ (s.engine.slots.get l).swing = false
        ∧ (freshRecord s l r).contact = .loaded ∧ (s.shaper.get l).prevValid = true
        ∧ s.monitor.settings.slipThreshold < (r.hf - (s.shaper.get l).prev.hf).natAbs
        ∧ s.monitor.settings.slipCount ≤ min ((s.monitor.legs.get l).slipCount + 1) 15
        ∧ (s.monitor.legs.get l).slipArm = true := by
  obtain ⟨-, -, -, -, hcount, harm, -⟩ := capturedRecord_arms s l r
  unfold slipDue
  rw [slips_iff, hcount, harm, satSucc_eq]
  simp only [and_assoc]
  rfl

theorem torqueDue_iff :
    torqueDue s l r.torques (capturedRecord s l r)
      ↔ (s.sup.op.isLive = true ∧ (s.sup.modes.get l = .active ∨ s.sup.modes.get l = .strut)) ∧ 0 < s.torqueOver l r.torques
        ∧ s.monitor.settings.torqueCount ≤ min ((s.monitor.legs.get l).torqueCount + 1) 15
        ∧ (s.monitor.legs.get l).torqueArm = true := by
  obtain ⟨-, -, -, -, -, -, hcount, harm⟩ := capturedRecord_arms s l r
  unfold torqueDue strains
  rw [detectsLoad_iff, hcount, harm, satSucc_eq]
  simp only [and_assoc]

end

/-- Settles O18. -/
theorem contactChangesAreDetected : Obligations.ContactChangesAreDetected := by
  refine ⟨fun s l r rest h => ?_, fun s l r rest h => ?_, fun s l slot rest h => ?_⟩
  · intro c st k sl ahead hne hon hcount
    exact ⟨_, leg_loaded h ⟨hne, by rw [(slotOn_high hon).1]; exact hcount⟩⟩
  · intro c st k sl hd load hlive hlow
    refine ⟨fun hwas hoff hcount harm hwindow => ?_, fun hwas hcount harm hactive hswing hparked hlate =>
      leg_missed h hlive hlow hwas hcount harm hactive hswing hparked hlate⟩
    refine ⟨_, leg_unloaded h hlive ⟨by rw [hwas]; exact nofun, ?_, fun ⟨hno, _⟩ => by rw [hwas] at hno; cases hno⟩ hwas harm ?_⟩
    · rw [slotOff_low hlow hoff]; exact hcount
    · rw [unloadWindow_iff]
      exact hwindow.imp_right fun hw => hw.elim (fun ⟨hactive, hp⟩ => ⟨hactive, .inl hp⟩) fun ⟨hactive, hsw⟩ => ⟨hactive, .inr hsw⟩
  · refine ⟨_, exec_legRecord h, fun hstale => ?_, fun r hr => ?_⟩
    · subst hstale
      rw [(slotReached_stale (s.dropSlot l rest) l).raises]
      show s.wires.raises ++ staleRaises s l = _
      rw [staleRaises_eq]
      exact congrArg _ (raiseIf_congr (staleDue_iff s l) _ rfl _)
    · subst hr
      show (freshTaken s l r rest).wires.raises = _
      rw [freshTaken_raises, staleRaises_eq]
      unfold detectedRaises
      dsimp only
      simp only [← List.append_assoc]
      show _ = s.wires.raises ++ _ ++ _ ++ _ ++ _ ++ _ ++ _
      refine congrArg₂ _ (congrArg₂ _ (congrArg₂ _ (congrArg₂ _ (congrArg₂ _ (congrArg _ ?_) ?_) ?_) ?_) ?_) ?_
      · exact raiseIf_congr (staleDue_iff s l) _ rfl _
      · refine raiseIf_congr ?_ _ rfl _
        show _ ↔ _ ∧ _ ∧ ((freshTaken s l r rest).monitor.legs.get l).contact = .loaded ∧ _
        rw [freshTaken_record]
        exact earlyDue_iff s l r
      · refine raiseIf_congr ?_ _ rfl _
        show _ ↔ _ ∧ _ ∧ _ ∧ _ ∧ ((freshTaken s l r rest).monitor.legs.get l).contact = .unloaded ∧ _
        rw [freshTaken_record]
        exact missedDue_iff s l r
      · refine raiseIf_congr ?_ _ rfl _
        show _ ↔ _ ∧ _ ∧ ((freshTaken s l r rest).monitor.legs.get l).contact = .unloaded ∧ _
        rw [freshTaken_record]
        exact unloadDue_iff s l r
      · refine raiseIf_congr ?_ _ rfl _
        show _ ↔ _ ∧ _ ∧ ((freshTaken s l r rest).monitor.legs.get l).contact = .loaded ∧ _
        rw [freshTaken_record]
        exact slipDue_iff s l r
      · refine raiseIf_congr ?_ _ (congrArg Nat.cast (torqueOver_eq s l r.torques)) _
        rw [torqueDue_iff, torqueOver_eq]
        rfl

/-! ### SLIP and OVERTORQUE (R55, R59, R60) -/

theorem raisesOn_of_reached {s : State} {l : LegId} {slot : LegSlot} {c : LegContact} {raised : List Raise}
    (h : SlotReached l s (s.takeSlot l slot) c raised) {x : Raise} (hx : x ∈ raised) : s.raisesOn l x.line slot = true := by
  unfold State.raisesOn
  rw [h.raises, List.drop_left]
  exact List.any_eq_true.mpr ⟨x, hx, beq_self_eq_true _⟩

theorem freshTaken_frame_blocks (s : State) (l : LegId) (r : LegRec) (rest : List LegSlot) :
    (freshTaken s l r rest).engine = s.engine ∧ (freshTaken s l r rest).sup = s.sup
    ∧ (freshTaken s l r rest).arbiter = s.arbiter ∧ (freshTaken s l r rest).shaper = s.shaper := by
  have h := freshTaken_reached s l r rest
  exact ⟨h.engine, h.sup, h.arbiter, h.shaper⟩

/-- A LOADED leg whose record does not count as off stays LOADED. -/
theorem judgedRecord_stays_loaded {s : State} {l : LegId} {r : LegRec} (hwas : (s.monitor.legs.get l).contact = .loaded)
    (hhigh : slotFactor s l * s.monitor.settings.offThreshold ≤ slotLoad s l r) (hcount : 1 ≤ s.monitor.settings.offCount) :
    (judgedRecord s l r).contact = .loaded := by
  have hstays : ¬BecomesUnloaded s l r := fun ⟨_, hoff, _⟩ => by
    rw [slotOff_between hhigh] at hoff
    omega
  rw [judgedRecord_of_same (fun ⟨hne, _⟩ => hne hwas) hstays]
  exact hwas

theorem slip_taken {s : State} {l : LegId} {r : LegRec} {rest : List LegSlot} (h : s.wires.legSlots.get l = .fresh r :: rest)
    (hdue : slipDue s l r.hf (capturedRecord s l r)) :
    let t := freshTaken s l r rest
    exec (.slip l) s = .next t ∧ exec (.legRecord l) s = .next t
    ∧ (t.monitor.legs.get l).slipCount = min ((s.monitor.legs.get l).slipCount + 1) 15 ∧ (t.monitor.legs.get l).slipArm = false
    ∧ ({ line := 20 + l.num, value := (r.hf - (s.shaper.get l).prev.hf).natAbs, tag := s.ring.tag } : Raise) ∈ t.wires.raises := by
  obtain ⟨-, -, -, -, hcount, -⟩ := capturedRecord_arms s l r
  have hmem : ({ line := 20 + l.num, value := (s.hfError l r.hf : Nat), tag := s.ring.tag } : Raise)
      ∈ staleRaises s l ++ detectedRaises s l r (capturedRecord s l r) := by
    simp only [detectedRaises, raiseIf_of_due hdue, List.mem_append, List.mem_singleton]
    exact .inr (.inl (.inr rfl))
  dsimp only
  rw [freshTaken_record]
  refine ⟨takeSlotIf_of_due h (raisesOn_of_reached (slotReached_fresh s l r) hmem), exec_legRecord h, ?_, ?_, slip_mem hdue⟩
  · show (if slips s l r.hf (capturedRecord s l r).contact then satSucc (capturedRecord s l r).slipCount 15 else 0) = _
    rw [if_pos hdue.1, satSucc_eq, hcount]
  · show (!decide (slips s l r.hf (capturedRecord s l r).contact) || _ && !decide (slipDue s l r.hf (capturedRecord s l r))) = false
    rw [decide_eq_true hdue.1, decide_eq_true hdue]
    exact Bool.and_false _

theorem overtorque_taken {s : State} {l : LegId} {r : LegRec} {rest : List LegSlot} (h : s.wires.legSlots.get l = .fresh r :: rest)
    (hdue : torqueDue s l r.torques (capturedRecord s l r)) :
    let t := freshTaken s l r rest
    exec (.overtorque l) s = .next t ∧ exec (.legRecord l) s = .next t
    ∧ (t.monitor.legs.get l).torqueCount = min ((s.monitor.legs.get l).torqueCount + 1) 15
    ∧ (t.monitor.legs.get l).torqueArm = false
    ∧ ({ line := 24 + l.num, value := (s.torqueOver l r.torques : Nat), tag := s.ring.tag } : Raise) ∈ t.wires.raises := by
  obtain ⟨-, -, -, -, -, -, hcount, -⟩ := capturedRecord_arms s l r
  have hmem : ({ line := 24 + l.num, value := (s.torqueOver l r.torques : Nat), tag := s.ring.tag } : Raise)
      ∈ staleRaises s l ++ detectedRaises s l r (capturedRecord s l r) := by
    simp only [detectedRaises, raiseIf_of_due hdue, List.mem_append, List.mem_singleton]
    exact .inr (.inr rfl)
  dsimp only
  rw [freshTaken_record]
  refine ⟨takeSlotIf_of_due h (raisesOn_of_reached (slotReached_fresh s l r) hmem), exec_legRecord h, ?_, ?_,
    torque_mem hdue⟩
  · show (if strains s l r.torques then satSucc (capturedRecord s l r).torqueCount 15 else 0) = _
    rw [if_pos hdue.1, satSucc_eq, hcount]
  · show (!decide (strains s l r.torques) || _ && !decide (torqueDue s l r.torques (capturedRecord s l r))) = false
    rw [decide_eq_true hdue.1, decide_eq_true hdue]
    exact Bool.and_false _

theorem strains_iff (s : State) (l : LegId) (x : PerJoint Int) :
    strains s l x ↔ s.sup.op.isLive = true ∧ (s.sup.modes.get l = .active ∨ s.sup.modes.get l = .strut)
      ∧ ∃ lims j, s.limits.get l = some lims ∧ (lims.get j).torque < (x.get j).natAbs := by
  unfold strains
  rw [detectsLoad_iff, torqueOver_pos_iff, and_assoc]

/-- The counters and arms of SLIP and OVERTORQUE after a fresh record. -/
theorem freshRecord_counters (s : State) (l : LegId) (r : LegRec) :
    let c := freshRecord s l r
    (slips s l r.hf c.contact → c.slipCount = min ((s.monitor.legs.get l).slipCount + 1) 15)
    ∧ (¬slips s l r.hf c.contact → c.slipCount = 0 ∧ c.slipArm = true)
    ∧ (strains s l r.torques → c.torqueCount = min ((s.monitor.legs.get l).torqueCount + 1) 15)
    ∧ (¬strains s l r.torques → c.torqueCount = 0 ∧ c.torqueArm = true) := by
  obtain ⟨-, -, -, -, hslip, -, htorque, -⟩ := capturedRecord_arms s l r
  refine ⟨fun h => ?_, fun h => ⟨if_neg h, ?_⟩, fun h => ?_, fun h => ⟨if_neg h, ?_⟩⟩
  · refine (if_pos h).trans ?_
    rw [satSucc_eq, hslip]
  · show (!decide (slips s l r.hf (capturedRecord s l r).contact) || _) = true
    rw [decide_eq_false (p := slips s l r.hf (capturedRecord s l r).contact) h]
    rfl
  · refine (if_pos h).trans ?_
    rw [satSucc_eq, htorque]
  · show (!decide (strains s l r.torques) || _) = true
    rw [decide_eq_false h]
    rfl

/-- Settles O19. -/
theorem slipAndOvertorqueAreRaised : Obligations.SlipAndOvertorqueAreRaised := by
  refine ⟨fun s l r rest h => ?_, fun s l r rest lims j h hlive hmode hlims hover hmost hcount harm => ?_, fun s l r rest h => ?_⟩
  · intro c st k hlive hactive hswing hwas hhigh hoff hvalid hslip hcount harm
    obtain ⟨hcontact, -⟩ := capturedRecord_arms s l r
    have hdue : slipDue s l r.hf (capturedRecord s l r) :=
      (slipDue_iff s l r).mpr ⟨⟨hlive, hactive⟩, hswing, hcontact.trans (judgedRecord_stays_loaded hwas hhigh hoff), hvalid, hslip,
        hcount, harm⟩
    obtain ⟨hexec, hrecord, hslips, harmed, hmem⟩ := slip_taken h hdue
    exact ⟨_, hexec, hrecord, hslips, harmed, hmem, freshTaken_frame_blocks ..⟩
  · obtain ⟨hlargest, hpos⟩ := torqueOver_of_largest hlims hover hmost
    have hdue : torqueDue s l r.torques (capturedRecord s l r) :=
      (torqueDue_iff s l r).mpr ⟨⟨hlive, hmode⟩, hpos, hcount, harm⟩
    obtain ⟨hexec, hrecord, hstrains, harmed, hmem⟩ := overtorque_taken h hdue
    rw [hlargest] at hmem
    exact ⟨_, hexec, hrecord, hstrains, harmed, hmem, freshTaken_frame_blocks ..⟩
  · have hslips := slips_iff s l r (freshRecord s l r).contact
    rw [and_assoc] at hslips
    refine ⟨freshTaken s l r rest, exec_legRecord h, ?_⟩
    dsimp only
    rw [freshTaken_record, ← hslips, ← strains_iff]
    exact freshRecord_counters s l r

/-! ### The baseline (R50, R51, R53) -/

/-- Stage 3 leaves the age, the capture, the baseline and the stale arm. -/
theorem judgedRecord_aged (s : State) (l : LegId) (r : LegRec) :
    (judgedRecord s l r).age = (agedRecord s l).age ∧ (judgedRecord s l r).capture = (s.monitor.legs.get l).capture
    ∧ (judgedRecord s l r).baseline = (s.monitor.legs.get l).baseline
    ∧ (judgedRecord s l r).staleArm = (agedRecord s l).staleArm := by
  obtain ⟨now, on, off, unload, hj, -⟩ := (agedRecord s l).classified_cases s.monitor.settings r.force
  unfold judgedRecord
  rw [hj]
  exact ⟨rfl, rfl, rfl, rfl⟩

theorem baselineStale_taken {s : State} {l : LegId} {slot : LegSlot} {rest : List LegSlot}
    (h : s.wires.legSlots.get l = slot :: rest) (hage : (s.monitor.legs.get l).age = s.monitor.settings.maxAge)
    (hmax : s.monitor.settings.maxAge ≤ 65000) (harm : (s.monitor.legs.get l).staleArm = true)
    (hcapture : (s.monitor.legs.get l).capture = none) :
    ∃ t, exec (.baselineStale l) s = .next t ∧ exec (.legRecord l) s = .next t
      ∧ (t.monitor.legs.get l).age = s.monitor.settings.maxAge + 1 ∧ (t.monitor.legs.get l).staleArm = false
      ∧ ({ line := 28 + l.num, value := (s.monitor.settings.maxAge : Int) + 1, tag := s.ring.tag } : Raise) ∈ t.wires.raises
      ∧ t.engine = s.engine ∧ t.sup = s.sup ∧ t.arbiter = s.arbiter ∧ t.shaper = s.shaper := by
  have hnow : min ((s.monitor.legs.get l).age + 1) 65535 = s.monitor.settings.maxAge + 1 := by omega
  have hdue : staleDue s (s.monitor.legs.get l) := (staleDue_iff s l).mpr ⟨by omega, by omega, harm⟩
  have hraised : ({ line := 28 + l.num, value := (s.monitor.settings.maxAge : Int) + 1, tag := s.ring.tag } : Raise) ∈ staleRaises s l := by
    rw [staleRaises_eq, raiseIf_of_due hdue, hnow]
    exact List.mem_singleton.mpr rfl
  have haged : (agedRecord s l).age = s.monitor.settings.maxAge + 1 := (satSucc_eq ..).trans hnow
  have hdisarmed : (agedRecord s l).staleArm = false := by
    show (!decide (staleDue s (s.monitor.legs.get l)) && _) = false
    rw [decide_eq_true hdue]
    rfl
  have hframe := slotTaken_takeSlot (s.dropSlot l rest) l slot
  have hrecord : (((s.dropSlot l rest).takeSlot l slot).monitor.legs.get l).age = (agedRecord s l).age
      ∧ (((s.dropSlot l rest).takeSlot l slot).monitor.legs.get l).staleArm = (agedRecord s l).staleArm := by
    cases slot with
    | stale => rw [(slotReached_stale (s.dropSlot l rest) l).record]; exact ⟨rfl, rfl⟩
    | fresh r =>
      have hjudged := judgedRecord_aged s l r
      have hkept : capturedRecord s l r = judgedRecord s l r := captured_none (hjudged.2.1.trans hcapture) _ _
      rw [(slotReached_fresh (s.dropSlot l rest) l r).record]
      show (capturedRecord s l r).age = _ ∧ (capturedRecord s l r).staleArm = _
      rw [hkept]
      exact ⟨hjudged.1, hjudged.2.2.2⟩
  have hmem : ({ line := 28 + l.num, value := (s.monitor.settings.maxAge : Int) + 1, tag := s.ring.tag } : Raise)
      ∈ ((s.dropSlot l rest).takeSlot l slot).wires.raises := by
    cases slot with
    | stale =>
      rw [(slotReached_stale (s.dropSlot l rest) l).raises]
      exact List.mem_append_right _ hraised
    | fresh r =>
      rw [(slotReached_fresh (s.dropSlot l rest) l r).raises]
      exact List.mem_append_right _ (List.mem_append_left _ hraised)
  refine ⟨(s.dropSlot l rest).takeSlot l slot, takeSlotIf_of_due h ?_, exec_legRecord h, hrecord.1.trans haged,
    hrecord.2.trans hdisarmed, hmem, hframe.engine, hframe.sup, hframe.arbiter, hframe.shaper⟩
  cases slot with
  | stale => exact raisesOn_of_reached (slotReached_stale s l) hraised
  | fresh r => exact raisesOn_of_reached (slotReached_fresh s l r) (List.mem_append_left _ hraised)

/-- Stage 4 with a capture in progress of a leg that is UNLOADED (R53). -/
theorem captured_some {c : LegContact} {x : Capture} (hx : c.capture = some x) (hnow : c.contact = .unloaded) (force : Nat) :
    (x.taken = 3 → c.captured true force
      = { c with baseline := (x.sum + force) / 4, age := 0, capture := none, staleArm := true })
    ∧ (x.taken ≠ 3 → c.captured true force = { c with capture := some { taken := x.taken + 1, sum := x.sum + force } })
    ∧ c.captured false force = c := by
  have hkeeps : ¬c.contact ≠ .unloaded := fun h => h hnow
  unfold LegContact.captured
  rw [hx]
  dsimp only
  rw [if_neg hkeeps]
  refine ⟨fun h => ?_, fun h => ?_, ?_⟩
  · rw [if_pos rfl, if_pos (by rw [h]; rfl)]
    rfl
  · rw [if_pos rfl, if_neg fun (h4 : x.taken + 1 = Config.captureSamples) => h (Nat.succ.inj h4)]
  · rw [if_neg Bool.false_ne_true, if_neg hkeeps]

/-- Settles O20. -/
theorem baselineAgesAndIsCaptured : Obligations.BaselineAgesAndIsCaptured := by
  refine ⟨fun s l slot rest h hage hmax harm hcapture => baselineStale_taken h hage hmax harm hcapture, fun s l r rest x h => ?_⟩
  intro c st k hx hwas hlow hcount
  obtain ⟨hage, hcapture, hbaseline, -⟩ := judgedRecord_aged s l r
  have hnow : (judgedRecord s l r).contact = .unloaded := by
    rw [judgedRecord_stays_unloaded hwas hlow hcount]
    exact hwas
  have hx' : (judgedRecord s l r).capture = some x := hcapture.trans hx
  obtain ⟨hfull, hsample, hstance⟩ := captured_some hx' hnow r.force
  have hcaptured : capturedRecord s l r = (judgedRecord s l r).captured (s.engine.slots.get l).swing r.force := rfl
  have hcontact : (freshRecord s l r).contact = .unloaded := (freshRecord_judged s l r).1.trans hnow
  have hage' : (agedRecord s l).age = min ((s.monitor.legs.get l).age + 1) 65535 := satSucc_eq ..
  obtain ⟨-, -, -, kbaseline, kage, kcapture, kstale⟩ := freshRecord_keeps s l r
  refine ⟨freshTaken s l r rest, exec_legRecord h, ?_, fun hswing htaken => ⟨?_, ?_⟩, fun hswing htaken => ?_, fun hswing => ?_,
    freshTaken_others s l r rest, freshTaken_frame_blocks ..⟩
  · rw [freshTaken_record]; exact hcontact
  · refine takeSlotIf_of_due h ?_
    have hdue : s.captureDue l (.fresh r)
        = match (judgedRecord s l r).capture with
          | some k => (judgedRecord s l r).contact == .unloaded && (s.engine.slots.get l).swing && k.taken + 1 == Config.captureSamples
          | none => false := by
      unfold State.captureDue
      rw [agedContact_eq]
      rfl
    rw [hdue, hx', hnow, hswing]
    exact beq_iff_eq.2 (congrArg (· + 1) htaken)
  · rw [freshTaken_record, kbaseline, kage, kcapture, kstale, hcaptured, hswing, hfull htaken]
    exact ⟨rfl, rfl, rfl, rfl⟩
  · rw [freshTaken_record, kbaseline, kage, kcapture, hcaptured, hswing, hsample htaken]
    exact ⟨rfl, hbaseline, hage.trans hage'⟩
  · rw [freshTaken_record, kbaseline, kcapture, hcaptured, hswing, hstance]
    exact ⟨hx', hbaseline⟩

end Sys2Proof.Machine
end

section
/-!
DEFINITION. The report of an advance: what the monitor and the reflex action unit take from it, leg by leg (O21).
-/

namespace Sys2Proof.Machine

-- One proof after another: side by side they take more threads than the memory limit of the check allows.
set_option Elab.async false

/-! ## One leg's report -/

theorem takeLegReport_some (s : State) (l : LegId) (r : LegReport) :
    s.takeLegReport l (some r) = { s with
      monitor := { s.monitor with legs := s.monitor.legs.set l (s.monitorReport l r) }
      unit := { s.unit with reachHold := if r.liftoff then s.unit.reachHold.set l 0 else s.unit.reachHold } } := by
  unfold State.takeLegReport
  dsimp only
  split <;> rfl

/-- What of the state one leg's report can be judged by: all but the other legs' contacts and the reach-holds. -/
structure ReportKept (s t : State) : Prop where
  contacts : t = { s with monitor := { s.monitor with legs := t.monitor.legs }, unit := { s.unit with reachHold := t.unit.reachHold } }

theorem ReportKept.refl (s : State) : ReportKept s s := ⟨rfl⟩

theorem ReportKept.trans {s t u : State} (h : ReportKept s t) (g : ReportKept t u) : ReportKept s u := by
  obtain ⟨h⟩ := h
  obtain ⟨g⟩ := g
  refine ⟨?_⟩
  rw [g, h]

theorem reportKept_takeLegReport (s : State) (l : LegId) (r : Option LegReport) : ReportKept s (s.takeLegReport l r) := by
  cases r with
  | none => exact .refl s
  | some r => rw [takeLegReport_some]; exact ⟨rfl⟩

theorem reportKept_foldl (f : LegId → Option LegReport) (ls : List LegId) (s : State) :
    ReportKept s (ls.foldl (fun t l => t.takeLegReport l (f l)) s) := by
  induction ls generalizing s with
  | nil => exact .refl s
  | cons l ls ih => exact (reportKept_takeLegReport ..).trans (ih _)

/-- The leg's contact and reach-hold are as they were. -/
def LegAlike (l : LegId) (s t : State) : Prop :=
  t.monitor.legs.get l = s.monitor.legs.get l ∧ t.unit.reachHold.get l = s.unit.reachHold.get l

theorem takeLegReport_other (s : State) {l m : LegId} (hne : m ≠ l) (r : Option LegReport) : LegAlike m s (s.takeLegReport l r) := by
  cases r with
  | none => exact ⟨rfl, rfl⟩
  | some r =>
    rw [takeLegReport_some]
    refine ⟨PerLeg.get_set_ne _ _ hne, ?_⟩
    dsimp only
    split
    · exact PerLeg.get_set_ne _ _ hne
    · rfl

theorem takeLegReport_alike {l : LegId} {s t : State} (hkept : ReportKept s t) (h : LegAlike l s t) (r : Option LegReport) :
    LegAlike l (s.takeLegReport l r) (t.takeLegReport l r) := by
  obtain ⟨hcontact, hhold⟩ := h
  cases r with
  | none => exact ⟨hcontact, hhold⟩
  | some r =>
    have hreport : t.monitorReport l r = s.monitorReport l r := by
      have hcrosses : State.captureStarts.crossesRefresh t r = State.captureStarts.crossesRefresh s r := by rw [hkept.contacts]; rfl
      have hplaying : t.playing l = s.playing l := by rw [hkept.contacts]; rfl
      have hengine : t.engine = s.engine := by rw [hkept.contacts]
      have hsup : t.sup = s.sup := by rw [hkept.contacts]
      unfold State.monitorReport State.captureStarts
      rw [hcontact, hcrosses, hplaying, hengine, hsup]
    rw [takeLegReport_some, takeLegReport_some]
    refine ⟨?_, ?_⟩
    · dsimp only
      rw [PerLeg.get_set_same, PerLeg.get_set_same, hreport]
    · dsimp only
      split
      · rw [PerLeg.get_set_same, PerLeg.get_set_same]
      · exact hhold

theorem foldl_untaken (f : LegId → Option LegReport) {l : LegId} {ls : List LegId} (h : l ∉ ls) (s : State) :
    LegAlike l s (ls.foldl (fun t m => t.takeLegReport m (f m)) s) := by
  induction ls generalizing s with
  | nil => exact ⟨rfl, rfl⟩
  | cons m ls ih =>
    obtain ⟨hne, hrest⟩ := not_or.1 (fun hmem => h (List.mem_cons.2 hmem))
    obtain ⟨hcontact, hhold⟩ := ih hrest (s.takeLegReport m (f m))
    obtain ⟨hcontact', hhold'⟩ := takeLegReport_other s hne (f m)
    exact ⟨hcontact.trans hcontact', hhold.trans hhold'⟩

/-- Every leg's report acts on that leg as it does alone. -/
theorem foldl_taken (f : LegId → Option LegReport) {l : LegId} {ls : List LegId} (hnodup : ls.Nodup) (h : l ∈ ls) (s : State) :
    LegAlike l (s.takeLegReport l (f l)) (ls.foldl (fun t m => t.takeLegReport m (f m)) s) := by
  induction ls generalizing s with
  | nil => cases h
  | cons m ls ih =>
    obtain ⟨hnot, hnodup⟩ := List.nodup_cons.1 hnodup
    obtain rfl | hmem := List.mem_cons.1 h
    · exact foldl_untaken f hnot _
    · have hne : l ≠ m := fun e => hnot (e ▸ hmem)
      obtain ⟨hcontact, hhold⟩ := ih hnodup hmem (s.takeLegReport m (f m))
      obtain ⟨hcontact', hhold'⟩ :=
        takeLegReport_alike (reportKept_takeLegReport s m (f m)) (takeLegReport_other s hne (f m)) (f l)
      exact ⟨hcontact.trans hcontact', hhold.trans hhold'⟩

theorem legs_nodup : LegId.all.Nodup := by decide

theorem mem_legs (l : LegId) : l ∈ LegId.all := by cases l <;> decide

/-! ## The whole report -/

/-- The state once the report at the front has been taken. -/
def reportTaken (s : State) (reports : PerLeg (Option LegReport)) (rest : List (PerLeg (Option LegReport))) : State :=
  LegId.all.foldl (fun t l => t.takeLegReport l (reports.get l)) { s with wires := { s.wires with reports := rest } }

theorem exec_advanceReport {s : State} {reports : PerLeg (Option LegReport)} {rest : List (PerLeg (Option LegReport))}
    (h : s.wires.reports = reports :: rest) : exec .advanceReport s = .next (reportTaken s reports rest) := by
  show execAdvanceReport s = _
  unfold execAdvanceReport
  rw [h]
  rfl

theorem reportTaken_leg (s : State) (reports : PerLeg (Option LegReport)) (rest : List (PerLeg (Option LegReport))) (l : LegId) :
    LegAlike l (s.takeLegReport l (reports.get l)) (reportTaken s reports rest) := by
  obtain ⟨hcontact, hhold⟩ := foldl_taken (fun m => reports.get m) legs_nodup (mem_legs l)
    { s with wires := { s.wires with reports := rest } }
  refine ⟨hcontact.trans ?_, hhold.trans ?_⟩
  · cases reports.get l with
    | none => rfl
    | some r => rw [takeLegReport_some, takeLegReport_some]; rfl
  · cases reports.get l with
    | none => rfl
    | some r => rw [takeLegReport_some, takeLegReport_some]

/-! ## What the monitor does with a report -/

theorem captureStarts_iff (s : State) (l : LegId) (r : LegReport) :
    s.captureStarts l r = true ↔ (r.crossing = true ∧ r.swingAfter = true ∧ (s.monitor.legs.get l).contact = .unloaded
      ∧ 1 ≤ fwd r.oldPhase (s.header r.bank).refresh ∧ fwd r.oldPhase (s.header r.bank).refresh ≤ r.rate
      ∧ s.playing l = true ∧ (s.engine.slots.get l).bank = r.bank ∧ (s.engine.slots.get l).offset = r.offset
      ∧ s.sup.op.isLive = true) := by
  unfold State.captureStarts State.captureStarts.crossesRefresh
  simp only [Bool.and_eq_true, beq_iff_eq, decide_eq_true_iff]
  tauto

theorem monitorReport_fields (s : State) (l : LegId) (r : LegReport) :
    (s.monitorReport l r).earlyArm = ((s.monitor.legs.get l).earlyArm || r.liftoff)
    ∧ (s.monitorReport l r).missedArm = ((s.monitor.legs.get l).missedArm || r.touchdown)
    ∧ (s.monitorReport l r).contact = (s.monitor.legs.get l).contact
    ∧ (s.monitorReport l r).baseline = (s.monitor.legs.get l).baseline
    ∧ (s.monitorReport l r).age = (s.monitor.legs.get l).age := by
  unfold State.monitorReport LegContact.abandon
  dsimp only
  split <;> split <;> exact ⟨rfl, rfl, rfl, rfl, rfl⟩

theorem monitorReport_starts {s : State} {l : LegId} {r : LegReport} (h : s.captureStarts l r = true) :
    (s.monitorReport l r).capture = some { taken := 0, sum := 0 } := by
  unfold State.monitorReport
  dsimp only
  rw [if_pos h]

theorem monitorReport_abandons {s : State} {l : LegId} {r : LegReport} (h : r.touchdown = true ∨ r.parked = true ∨ r.kept = false)
    (hnot : ¬s.captureStarts l r = true) : (s.monitorReport l r).capture = none := by
  have habandon : (r.touchdown || r.parked || !r.kept) = true := by
    simpa only [Bool.or_eq_true, Bool.not_eq_true', or_assoc] using h
  unfold State.monitorReport
  dsimp only
  rw [if_neg hnot, if_pos habandon]
  rfl

/-- Settles O21. -/
theorem advanceReportActs : Obligations.AdvanceReportActs := by
  intro s reports rest h
  have hleg := reportTaken_leg s reports rest
  refine ⟨reportTaken s reports rest, exec_advanceReport h, fun l hnone => ?_, fun l r hsome => ?_,
    (reportKept_foldl _ _ _).contacts⟩
  · have := hleg l
    rw [hnone] at this
    exact this
  · obtain ⟨hcontact, hhold⟩ := hleg l
    rw [hsome, takeLegReport_some] at hcontact hhold
    dsimp only at hcontact hhold
    rw [PerLeg.get_set_same] at hcontact
    obtain ⟨hearly, hmissed, hnow, hbaseline, hage⟩ := monitorReport_fields s l r
    rw [hcontact]
    refine ⟨fun hlift => ⟨?_, ?_⟩, fun hlift => ⟨?_, ?_⟩, hmissed, fun hswing hends => ?_, ?_, hnow, hbaseline, hage⟩
    · rw [hearly, hlift, Bool.or_true]
    · rw [hhold, if_pos hlift, PerLeg.get_set_same]
    · rw [hearly, hlift, Bool.or_false]
    · rw [hhold, hlift]; rfl
    · refine monitorReport_abandons hends fun hstarts => ?_
      obtain ⟨-, hafter, -⟩ := (captureStarts_iff s l r).1 hstarts
      exact absurd hafter (by rw [hswing]; exact Bool.false_ne_true)
    · intro hcrossing hafter hunloaded hlow hhigh hplaying hbank hoffset hlive
      exact monitorReport_starts
        ((captureStarts_iff s l r).2 ⟨hcrossing, hafter, hunloaded, hlow, hhigh, hplaying, hbank, hoffset, hlive⟩)

end Sys2Proof.Machine
end

section
/-!
DEFINITION. The body slots (R65 to R67, R70, R77, R78): what a usable record leaves, and what an unusable one does (O22, O23).
-/

namespace Sys2Proof.Machine

-- One proof after another: side by side they take more threads than the memory limit of the check allows.
set_option Elab.async false

theorem isLive_iff (op : OpState) : op.isLive = true ↔ (op = .standing ∨ op = .walking ∨ op = .stopping) := by
  cases op <;> decide

/-! ## The stages of a usable record -/

theorem endBlindness_eq (s : State) :
    s.endBlindness = { s with
      balance := { s.balance with blind := false }
      link := if s.balance.blind = true then s.link.post (newAlert .bodyRestored .none .none s.ring.tag 0) else s.link } := by
  unfold State.endBlindness
  split
  case isTrue => rfl
  case isFalse h =>
    have hblind : s.balance.blind = false := Bool.eq_false_iff.2 h
    rw [← hblind]

/-- An arm after a test of R77 or R78. -/
def armAfter (past live : Prop) [Decidable past] [Decidable live] (arm : Bool) : Bool :=
  if past then (if live ∧ arm = true then false else arm) else true

theorem armAfter_iff (past live : Prop) [Decidable past] [Decidable live] (arm : Bool) :
    armAfter past live arm = true ↔ ¬past ∨ (¬live ∧ arm = true) := by
  unfold armAfter
  by_cases hpast : past
  · by_cases hlive : live
    · cases arm <;> simp [hpast, hlive]
    · simp [hpast, hlive]
  · simp [hpast]

theorem tiltTest_eq (s : State) :
    s.tiltTest = { s with
      balance := { s.balance with
        tiltArm := armAfter (s.balance.tiltWarning < s.balance.tiltError) (s.sup.op.isLive = true) s.balance.tiltArm }
      wires := { s.wires with
        raises := s.wires.raises ++ raiseIf
          (s.balance.tiltWarning < s.balance.tiltError ∧ s.sup.op.isLive = true ∧ s.balance.tiltArm = true) 6
          s.balance.tiltError s.ring.tag } } := by
  unfold State.tiltTest armAfter raiseIf
  by_cases hover : s.balance.tiltWarning < s.balance.tiltError
  · rw [if_pos hover, if_pos hover]
    by_cases harm : s.sup.op.isLive = true ∧ s.balance.tiltArm = true
    · rw [if_pos harm, if_pos harm, if_pos ⟨hover, harm⟩]
      rfl
    · rw [if_neg harm, if_neg harm, if_neg fun h => harm h.2, List.append_nil]
  · rw [if_neg hover, if_neg hover, if_neg fun h => hover h.1, List.append_nil]

theorem fallTest_eq (s : State) :
    s.fallTest = { s with
      balance := { s.balance with
        fallArm := armAfter (s.balance.fallLimit < s.balance.deviation) (s.sup.op.isLive = true) s.balance.fallArm }
      wires := { s.wires with
        raises := s.wires.raises ++ raiseIf
          (s.balance.fallLimit < s.balance.deviation ∧ s.sup.op.isLive = true ∧ s.balance.fallArm = true) 4
          s.balance.deviation s.ring.tag } } := by
  unfold State.fallTest armAfter raiseIf
  by_cases hover : s.balance.fallLimit < s.balance.deviation
  · rw [if_pos hover, if_pos hover]
    by_cases harm : s.sup.op.isLive = true ∧ s.balance.fallArm = true
    · rw [if_pos harm, if_pos harm, if_pos ⟨hover, harm⟩]
      rfl
    · rw [if_neg harm, if_neg harm, if_neg fun h => harm h.2, List.append_nil]
  · rw [if_neg hover, if_neg hover, if_neg fun h => hover h.1, List.append_nil]

/-! ## What a usable record leaves -/

/-- The balance unit after the first four stages of R65, before the tests. -/
def heldBalance (b : Balance) (r : BodyRec) : Balance := ({ b.hold r with blind := false } : Balance).relevelTakes r

/-- The state after a usable record. -/
def bodyTaken (s : State) (r : BodyRec) : State :=
  let b := heldBalance s.balance r
  let tilt := b.tiltWarning < b.tiltError
  let fall := b.fallLimit < b.deviation
  let live := s.sup.op.isLive = true
  { s with
    balance := { b with tiltArm := armAfter tilt live b.tiltArm, fallArm := armAfter fall live b.fallArm }
    link := if s.balance.blind = true then s.link.post (newAlert .bodyRestored .none .none s.ring.tag 0) else s.link
    wires := { s.wires with
      raises := s.wires.raises ++ raiseIf (tilt ∧ live ∧ b.tiltArm = true) 6 b.tiltError s.ring.tag
        ++ raiseIf (fall ∧ live ∧ b.fallArm = true) 4 b.deviation s.ring.tag } }

theorem usableBody_eq (s : State) (r : BodyRec) : s.usableBody r = bodyTaken s r := by
  unfold State.usableBody
  rw [endBlindness_eq]
  dsimp only
  rw [tiltTest_eq, fallTest_eq]
  rfl

/-- The reference after a record, from the old one and the total the sixteenth record brings (R70). -/
def referenceAfter (x : Option Relevel) (old : Int) (total : Relevel → Int) : Int :=
  match x with
  | some k => if k.taken = 15 then max (-436) (min 436 (total k / 16)) else old
  | none => old

theorem captureReference_fields (b : Balance) (p q : Int) :
    (b.captureReference p q).refPitch = max (-436) (min 436 (p / 16))
    ∧ (b.captureReference p q).refRoll = max (-436) (min 436 (q / 16)) := by
  unfold Balance.captureReference
  dsimp only
  rw [clampI_eq _ (by decide), clampI_eq _ (by decide), floorDiv_eq_ediv _ (by decide), floorDiv_eq_ediv _ (by decide)]
  exact ⟨rfl, rfl⟩

theorem heldBalance_reference (b : Balance) (r : BodyRec) :
    (heldBalance b r).refPitch = referenceAfter b.relevel b.refPitch (fun k => k.pitchSum + r.pitch)
    ∧ (heldBalance b r).refRoll = referenceAfter b.relevel b.refRoll (fun k => k.rollSum + r.roll) := by
  unfold heldBalance Balance.relevelTakes referenceAfter
  show (match b.relevel with | none => _ | some k => _ : Balance).refPitch = _
    ∧ (match b.relevel with | none => _ | some k => _ : Balance).refRoll = _
  cases b.relevel with
  | none => exact ⟨rfl, rfl⟩
  | some k =>
    dsimp only
    by_cases hlast : k.taken = 15
    · rw [if_pos (show k.taken + 1 = Config.relevelRecords from congrArg (· + 1) hlast), if_pos hlast, if_pos hlast]
      exact captureReference_fields ..
    · rw [if_neg (fun h : k.taken + 1 = Config.relevelRecords => hlast (Nat.succ.inj h)), if_neg hlast, if_neg hlast]
      exact ⟨rfl, rfl⟩

/-- A record leaves what is no held value, reference or capture. -/
theorem relevelTakes_keeps (b : Balance) (r : BodyRec) :
    b.relevelTakes r = { b with
      refPitch := (b.relevelTakes r).refPitch, refRoll := (b.relevelTakes r).refRoll, refSource := (b.relevelTakes r).refSource
      band := (b.relevelTakes r).band, relevel := (b.relevelTakes r).relevel } := by
  unfold Balance.relevelTakes
  split
  · rfl
  · split <;> rfl

theorem heldBalance_kept (b : Balance) (r : BodyRec) :
    ((heldBalance b r).heldPitch = r.pitch ∧ (heldBalance b r).heldRoll = r.roll ∧ (heldBalance b r).blind = false)
    ∧ (heldBalance b r).tiltWarning = b.tiltWarning ∧ (heldBalance b r).fallLimit = b.fallLimit
    ∧ (heldBalance b r).tiltArm = b.tiltArm ∧ (heldBalance b r).fallArm = b.fallArm := by
  have hheld : heldBalance b r = _ := relevelTakes_keeps { b.hold r with blind := false } r
  rw [hheld]
  exact ⟨⟨rfl, rfl, rfl⟩, rfl, rfl, rfl, rfl⟩

theorem heldBalance_errors (b : Balance) (r : BodyRec) :
    (heldBalance b r).tiltError
        = max (clampI ((heldBalance b r).refPitch - r.pitch) (-4095) 4095).natAbs
            (clampI ((heldBalance b r).refRoll - r.roll) (-4095) 4095).natAbs
    ∧ (heldBalance b r).deviation
        = max (r.pitch - (heldBalance b r).refPitch).natAbs (r.roll - (heldBalance b r).refRoll).natAbs := by
  obtain ⟨⟨hpitch, hroll, hblind⟩, -⟩ := heldBalance_kept b r
  unfold Balance.tiltError Balance.deviation Balance.pitchError Balance.rollError
  rw [hpitch, hroll, hblind, if_neg Bool.false_ne_true, if_neg Bool.false_ne_true]
  exact ⟨rfl, rfl⟩

theorem exec_bodyRecord {s : State} {b : HandedBody} {rest : List HandedBody} (h : s.wires.bodySlots = b :: rest) :
    exec .bodyRecord s = .next ((s.dropBody rest).takeBody b) := by
  show s.takeBodyIf _ = _
  unfold State.takeBodyIf
  rw [h]
  exact if_pos rfl

theorem takeBodyIf_of_due {s : State} {b : HandedBody} {rest : List HandedBody} (h : s.wires.bodySlots = b :: rest)
    {due : HandedBody → Bool} (hdue : due b = true) : s.takeBodyIf due = .next ((s.dropBody rest).takeBody b) := by
  unfold State.takeBodyIf
  rw [h]
  exact if_pos hdue

theorem exec_bodyRecord_usable {s : State} {r : BodyRec} {n : Nat} {rest : List HandedBody}
    (h : s.wires.bodySlots = ⟨.fresh r, n⟩ :: rest) (hvalid : r.valid = true) :
    exec .bodyRecord s = .next (bodyTaken (s.dropBody rest) r) := by
  rw [exec_bodyRecord h, ← usableBody_eq]
  exact congrArg _ (if_pos hvalid)

theorem bodyTaken_held (s : State) (r : BodyRec) (rest : List HandedBody) :
    let t := bodyTaken (s.dropBody rest) r
    t.balance.heldPitch = r.pitch ∧ t.balance.heldRoll = r.roll
      ∧ t.balance.heldPitchRate = max (-32767) (min 32767 r.pitchRate)
      ∧ t.balance.heldRollRate = max (-32767) (min 32767 r.rollRate)
      ∧ t.balance.unusable = 0 ∧ t.balance.blind = false
      ∧ t.balance.bands = s.balance.bands ∧ t.balance.t1 = s.balance.t1 ∧ t.balance.t2 = s.balance.t2
      ∧ t.balance.t3 = s.balance.t3 ∧ t.balance.tiltWarning = s.balance.tiltWarning
      ∧ t.balance.fallLimit = s.balance.fallLimit := by
  intro t
  have hheld : heldBalance s.balance r = _ := relevelTakes_keeps { s.balance.hold r with blind := false } r
  have hbalance : t.balance = { heldBalance s.balance r with tiltArm := t.balance.tiltArm, fallArm := t.balance.fallArm } := rfl
  rw [hbalance, hheld]
  exact ⟨rfl, rfl, clampI_eq _ (by decide), clampI_eq _ (by decide), rfl, rfl, rfl, rfl, rfl, rfl, rfl, rfl⟩

/-- Settles O22. -/
theorem usableRecordIsHeldAndTested : Obligations.UsableRecordIsHeldAndTested := by
  refine ⟨fun s r n rest h hvalid => ?_, fun s r n rest h hvalid => ?_⟩
  · obtain ⟨hpitch, hroll, hprate, hrrate, hunusable, hblind, hbands, h1, h2, h3, hwarning, hfall⟩ := bodyTaken_held s r rest
    exact ⟨bodyTaken (s.dropBody rest) r, exec_bodyRecord_usable h hvalid, hpitch, hroll, hprate, hrrate, hunusable, hblind,
      fun hsees => if_neg (by rw [show (s.dropBody rest).balance.blind = false from hsees]; exact Bool.false_ne_true),
      fun hwas => if_pos hwas,
      hbands, h1, h2, h3, hwarning, hfall, rfl⟩
  · intro reference refPitch refRoll ep er dp dr live tilt fall
    have hpitch : (heldBalance s.balance r).refPitch = refPitch := (heldBalance_reference s.balance r).1
    have hroll : (heldBalance s.balance r).refRoll = refRoll := (heldBalance_reference s.balance r).2
    obtain ⟨herror, hdeviation⟩ := heldBalance_errors s.balance r
    obtain ⟨-, hwarning, hlimit, htiltArm, hfallArm⟩ := heldBalance_kept s.balance r
    rw [hpitch, hroll] at herror hdeviation
    have hlive : s.sup.op.isLive = true ↔ live := isLive_iff _
    have htilt : (heldBalance s.balance r).tiltWarning < (heldBalance s.balance r).tiltError ↔ tilt := by rw [herror, hwarning]
    have hfall : (heldBalance s.balance r).fallLimit < (heldBalance s.balance r).deviation ↔ fall := by rw [hdeviation, hlimit]
    refine ⟨bodyTaken (s.dropBody rest) r, exec_bodyRecord_usable h hvalid, ?_, ?_, ?_⟩
    · refine congrArg₂ (· ++ ·) (congrArg (s.wires.raises ++ ·) (raiseIf_congr ?_ 6 ?_ s.ring.tag))
        (raiseIf_congr ?_ 4 ?_ s.ring.tag)
      · show _ ∧ s.sup.op.isLive = true ∧ (heldBalance s.balance r).tiltArm = true ↔ _
        rw [hlive, htiltArm]
        exact (and_congr_left' htilt).trans and_left_comm
      · exact (congrArg Nat.cast herror).trans (Nat.cast_max ..)
      · show _ ∧ s.sup.op.isLive = true ∧ (heldBalance s.balance r).fallArm = true ↔ _
        rw [hlive, hfallArm]
        exact (and_congr_left' hfall).trans and_left_comm
      · exact (congrArg Nat.cast hdeviation).trans (Nat.cast_max ..)
    · refine (armAfter_iff ..).trans ?_
      show ¬((heldBalance s.balance r).tiltWarning < (heldBalance s.balance r).tiltError)
        ∨ (¬s.sup.op.isLive = true ∧ (heldBalance s.balance r).tiltArm = true) ↔ _
      rw [htilt, hlive, htiltArm]
    · refine (armAfter_iff ..).trans ?_
      show ¬((heldBalance s.balance r).fallLimit < (heldBalance s.balance r).deviation)
        ∨ (¬s.sup.op.isLive = true ∧ (heldBalance s.balance r).fallArm = true) ↔ _
      rw [hfall, hlive, hfallArm]

end Sys2Proof.Machine
end

section
/-!
DEFINITION. Unusable body slots, and the capture of a relevel (R66, R70): O23.
-/

namespace Sys2Proof.Machine

-- One proof after another: side by side they take more threads than the memory limit of the check allows.
set_option Elab.async false

theorem takeBody_of_unusable (s : State) {b : HandedBody} (h : b.slot.usable = false) : s.takeBody b = s.unusableBody b.staleLimit := by
  unfold State.takeBody
  unfold BodySlot.usable at h
  cases hslot : b.slot with
  | stale => rfl
  | fresh r =>
    rw [hslot] at h
    exact if_neg (Bool.eq_false_iff.1 h)

theorem usable_eq_false_iff (slot : BodySlot) : slot.usable = false ↔
    (slot = .stale ∨ ∃ r, slot = .fresh r ∧ r.valid = false) := by
  cases slot with
  | stale => exact ⟨fun _ => .inl rfl, fun _ => rfl⟩
  | fresh r =>
    refine ⟨fun h => .inr ⟨r, rfl, h⟩, ?_⟩
    rintro (h | ⟨r', h, hvalid⟩)
    · cases h
    · obtain rfl := BodySlot.fresh.inj h
      exact hvalid

theorem goesBlind_iff (s : State) (limit : Nat) :
    s.goesBlind limit = true ↔ limit ≤ min (s.balance.unusable + 1) 15 ∧ s.balance.blind = false := by
  unfold State.goesBlind
  rw [satSucc_eq, Bool.and_eq_true, decide_eq_true_iff, Bool.not_eq_true']

/-- An unusable slot is counted (R66). -/
def slotCounted (s : State) : State := { s with balance := { s.balance with unusable := min (s.balance.unusable + 1) 15 } }

/-- The unit becomes blind, with the count in its alert (R66). -/
def blinded (s : State) : State :=
  ({ s with balance := { s.balance with blind := true } } : State).alert .bodyBlind .none .none s.balance.unusable

/-- An unusable slot that leaves the unit as blind as it was (R66). -/
theorem unusableBody_counts (s : State) {limit : Nat} (h : ¬s.goesBlind limit = true) :
    s.unusableBody limit = (slotCounted s).abortRelevel := by
  unfold State.unusableBody
  dsimp only
  rw [if_neg h, satSucc_eq]
  rfl

/-- An unusable slot that makes the unit blind (R66). -/
theorem unusableBody_blinds (s : State) {limit : Nat} (h : s.goesBlind limit = true) :
    s.unusableBody limit = blinded (slotCounted s).abortRelevel := by
  unfold State.unusableBody
  dsimp only
  rw [if_pos h, satSucc_eq]
  have hcount : (slotCounted s).abortRelevel.balance.unusable = min (s.balance.unusable + 1) 15 := by
    rw [abortRelevel_eq]
    rfl
  unfold blinded
  rw [hcount]
  rfl

/-- A blind unit gives no offset (R66, R72). -/
theorem offset_of_blind {b : Balance} (h : b.blind = true) (l : LegId) (j : JointId) : b.offset l j = 0 := by
  have hpitch : b.pitchError = 0 := if_pos h
  have hroll : b.rollError = 0 := if_pos h
  have hpitchRate : b.usedPitchRate = 0 := if_pos h
  have hrollRate : b.usedRollRate = 0 := if_pos h
  unfold Balance.offset
  dsimp only
  rw [hpitch, hroll, hpitchRate, hrollRate]
  simp only [Int.mul_zero, sub_self, add_zero]
  exact clampI_of_mem (Int.neg_nonpos_of_nonneg (Int.natCast_nonneg _)) (Int.natCast_nonneg _)

section
variable {s : State} {slot : BodySlot} {limit : Nat} {rest : List HandedBody} (h : s.wires.bodySlots = ⟨slot, limit⟩ :: rest)
  (hunusable : slot.usable = false) (hnone : s.balance.relevel = none)
include h hunusable hnone

theorem bodyRecord_counts (hstays : s.balance.blind = true ∨ min (s.balance.unusable + 1) 15 < limit) :
    exec .bodyRecord s = .next { s with
      balance := { s.balance with unusable := min (s.balance.unusable + 1) 15 }
      wires := { s.wires with bodySlots := rest } } := by
  have hnot : ¬(s.dropBody rest).goesBlind limit = true := by
    rw [goesBlind_iff]
    rintro ⟨hle, hsees⟩
    rcases hstays with hblind | hlt
    · exact Bool.false_ne_true ((show s.balance.blind = false from hsees).symm.trans hblind)
    · exact absurd hlt (Nat.not_lt.2 hle)
  rw [exec_bodyRecord h, takeBody_of_unusable _ hunusable, unusableBody_counts _ hnot]
  exact congrArg Host.Outcome.next (abortRelevel_none _ hnone)

theorem bodyRecord_blinds (hsees : s.balance.blind = false) (hle : limit ≤ min (s.balance.unusable + 1) 15) :
    ∃ t, exec .bodyBlind s = .next t ∧ exec .bodyRecord s = .next t
      ∧ t = { s with
          balance := { s.balance with unusable := min (s.balance.unusable + 1) 15, blind := true }
          link := s.link.post (newAlert .bodyBlind .none .none s.ring.tag (min (s.balance.unusable + 1) 15))
          wires := { s.wires with bodySlots := rest } }
      ∧ ∀ l j, t.balance.offset l j = 0 := by
  have hblinds : (s.dropBody rest).goesBlind limit = true := (goesBlind_iff ..).2 ⟨hle, hsees⟩
  refine ⟨(s.dropBody rest).takeBody ⟨slot, limit⟩, takeBodyIf_of_due h ?_, exec_bodyRecord h, ?_, ?_⟩
  · show (!slot.usable && s.goesBlind limit) = true
    rw [hunusable]
    exact hblinds
  · have hcount : min ((s.balance.unusable : Int) + 1) 15 = (min (s.balance.unusable + 1) 15 : Nat) := by push_cast; rfl
    rw [takeBody_of_unusable _ hunusable, unusableBody_blinds _ hblinds, hcount]
    exact congrArg blinded (abortRelevel_none (slotCounted (s.dropBody rest)) hnone)
  · rw [takeBody_of_unusable _ hunusable, unusableBody_blinds _ hblinds]
    exact offset_of_blind rfl

end

/-- A usable record in a relevel capture (R70). -/
theorem heldBalance_relevel {b : Balance} {k : Relevel} (hk : b.relevel = some k) (r : BodyRec) :
    (k.taken = 15 → (heldBalance b r).refSource = .captured ∧ (heldBalance b r).relevel = none
      ∧ (heldBalance b r).band = bandFor (heldBalance b r).refPitch b.t1 b.t2 b.t3)
    ∧ (k.taken ≠ 15 →
        (heldBalance b r).relevel = some { taken := k.taken + 1, pitchSum := k.pitchSum + r.pitch, rollSum := k.rollSum + r.roll }
        ∧ (heldBalance b r).refSource = b.refSource ∧ (heldBalance b r).band = b.band) := by
  have hheld : heldBalance b r = if k.taken + 1 = Config.relevelRecords
      then ({ b.hold r with blind := false } : Balance).captureReference (k.pitchSum + r.pitch) (k.rollSum + r.roll)
      else { ({ b.hold r with blind := false } : Balance) with
        relevel := some { taken := k.taken + 1, pitchSum := k.pitchSum + r.pitch, rollSum := k.rollSum + r.roll } } := by
    unfold heldBalance Balance.relevelTakes
    rw [show ({ b.hold r with blind := false } : Balance).relevel = some k from hk]
  refine ⟨fun hlast => ?_, fun hmore => ?_⟩
  · rw [hheld, if_pos (show k.taken + 1 = Config.relevelRecords from congrArg (· + 1) hlast)]
    exact ⟨rfl, rfl, rfl⟩
  · rw [hheld, if_neg fun h : k.taken + 1 = Config.relevelRecords => hmore (Nat.succ.inj h)]
    exact ⟨rfl, rfl, rfl⟩

/-- Settles O23. -/
theorem bodySlotsBlindAndRelevel : Obligations.BodySlotsBlindAndRelevel := by
  refine ⟨fun s slot limit rest h hslot hnone => ?_, fun s r n rest k h hvalid hk hsees => ?_⟩
  · have hunusable := (usable_eq_false_iff slot).2 hslot
    exact ⟨bodyRecord_counts h hunusable hnone, bodyRecord_blinds h hunusable hnone⟩
  · obtain ⟨hpitch, hroll⟩ := heldBalance_reference s.balance r
    obtain ⟨hlast, hmore⟩ := heldBalance_relevel hk r
    rw [hk] at hpitch hroll
    refine ⟨bodyTaken (s.dropBody rest) r, exec_bodyRecord_usable h hvalid, fun htaken => ?_, fun htaken => ?_, ?_, rfl, rfl⟩
    · obtain ⟨hsource, hnone, hband⟩ := hlast htaken
      refine ⟨?_, hpitch.trans (if_pos htaken), hroll.trans (if_pos htaken), hsource, hnone, hband⟩
      rw [← exec_bodyRecord_usable h hvalid, exec_bodyRecord h]
      refine takeBodyIf_of_due h ?_
      show (r.valid && s.balance.relevel.any _) = true
      rw [hvalid, hk]
      exact beq_iff_eq.2 (congrArg (· + 1) htaken)
    · obtain ⟨hrelevel, hsource, hband⟩ := hmore htaken
      exact ⟨hrelevel, hpitch.trans (if_neg htaken), hroll.trans (if_neg htaken), hsource, hband⟩
    · exact if_neg (Bool.eq_false_iff.1 hsees)

end Sys2Proof.Machine
end

section
/-!
DEFINITION. The end of a relevel capture that fails (R71): O24.
-/

namespace Sys2Proof.Machine

-- One proof after another: side by side they take more threads than the memory limit of the check allows.
set_option Elab.async false

/-! ## The alert in the queue -/

/-- The queue holds a RELEVEL-ABORTED alert with the given count. -/
def AbortTold (n : Int) (k : Link) : Prop := ∃ a ∈ k.alerts, a.kind = .relevelAborted ∧ a.value = n

theorem abortTold_posted {k : Link} (hroom : k.alerts.length < 16) (tag : Byte) (n : Int) :
    AbortTold n (k.post (newAlert .relevelAborted .none .none tag n)) := by
  unfold Link.post
  split
  case isTrue hany =>
    obtain ⟨e, hmem, hsame⟩ := List.any_eq_true.1 hany
    exact ⟨_, List.mem_map.2 ⟨e, hmem, if_pos hsame⟩, rfl, rfl⟩
  case isFalse =>
    rw [if_pos (show k.alerts.length < Config.alertSize from hroom)]
    exact ⟨_, List.mem_append_right _ List.mem_cons_self, rfl, rfl⟩

/-- An alert of another kind leaves it there. -/
theorem abortTold_post {n : Int} {k : Link} (h : AbortTold n k) {a : AlertEntry} (hkind : a.kind ≠ .relevelAborted) :
    AbortTold n (k.post a) := by
  obtain ⟨e, hmem, htold, hvalue⟩ := h
  have hother : ¬sameAlert a e = true := by
    unfold sameAlert
    rw [htold, Bool.and_eq_true, beq_iff_eq]
    exact fun hsame => hkind hsame.1
  unfold Link.post
  split
  · exact ⟨e, List.mem_map.2 ⟨e, hmem, if_neg hother⟩, htold, hvalue⟩
  · split
    · exact ⟨e, List.mem_append_left _ hmem, htold, hvalue⟩
    · exact ⟨e, hmem, htold, hvalue⟩

theorem post_foldl_length (f : Entry → AlertEntry) (l : List Entry) {k : Link} {n : Nat} (h : k.alerts.length ≤ n)
    (hroom : n + l.length ≤ 16) : (l.foldl (fun k e => k.post (f e)) k).alerts.length ≤ n + l.length := by
  induction l generalizing k n with
  | nil => exact h
  | cons e l ih =>
    have hroom' : n + 1 + l.length ≤ 16 := by rw [Nat.add_assoc, Nat.add_comm 1]; exact hroom
    have hposted := (Link.post_length k (f e) (by omega)).2
    have := ih (k := k.post (f e)) (n := n + 1) (by omega) hroom'
    rw [List.length_cons]
    exact this.trans (by omega)

/-! ## A capture abandoned -/

/-- The capture in progress in `s` is gone in `t`, told with its count, and the reference stands. -/
structure RelevelDropped (s : State) (k : Relevel) (t : State) : Prop where
  gone : t.balance.relevel = none
  told : AbortTold k.taken t.link
  pitch : t.balance.refPitch = s.balance.refPitch
  roll : t.balance.refRoll = s.balance.refRoll
  source : t.balance.refSource = s.balance.refSource
  band : t.balance.band = s.balance.band

theorem RelevelDropped.of_balance {s u t : State} {k : Relevel} (h : RelevelDropped u k t)
    (hsame : u.balance = s.balance) : RelevelDropped s k t :=
  ⟨h.gone, h.told, h.pitch.trans (by rw [hsame]), h.roll.trans (by rw [hsame]), h.source.trans (by rw [hsame]),
    h.band.trans (by rw [hsame])⟩

theorem relevelDropped_abort {s : State} {k : Relevel} (hk : s.balance.relevel = some k) (hroom : s.link.alerts.length < 16) :
    RelevelDropped s k s.abortRelevel := by
  rw [abortRelevel_some _ k hk]
  exact ⟨rfl, abortTold_posted hroom _ _, rfl, rfl, rfl, rfl⟩

theorem relevelDropped_blinded {s t : State} {k : Relevel} (h : RelevelDropped s k t) : RelevelDropped s k (blinded t) :=
  ⟨h.gone, abortTold_post h.told nofun, h.pitch, h.roll, h.source, h.band⟩

/-- An unusable body slot. -/
theorem relevelDropped_unusable {s : State} {k : Relevel} (hk : s.balance.relevel = some k) (hroom : s.link.alerts.length < 16)
    (limit : Nat) : RelevelDropped s k (s.unusableBody limit) := by
  obtain ⟨hgone, htold, hpitch, hroll, hsource, hband⟩ := relevelDropped_abort (s := slotCounted s) hk hroom
  have hcounted : RelevelDropped s k (slotCounted s).abortRelevel := ⟨hgone, htold, hpitch, hroll, hsource, hband⟩
  by_cases hblinds : s.goesBlind limit = true
  · rw [unusableBody_blinds s hblinds]
    exact relevelDropped_blinded hcounted
  · rw [unusableBody_counts s hblinds]
    exact hcounted

/-- A lost sweep. -/
theorem relevelDropped_loseSweep {s : State} {k : Relevel} (hk : s.balance.relevel = some k) (hroom : s.link.alerts.length < 16) :
    RelevelDropped s k s.loseSweep := by
  unfold State.loseSweep
  dsimp only
  have hcases : ∀ u : State, u.balance = s.balance → u.link = s.link → RelevelDropped s k u.abortRelevel :=
    fun u hbalance hlink =>
      (relevelDropped_abort (s := u) (by rw [hbalance]; exact hk) (by rw [hlink]; exact hroom)).of_balance hbalance
  refine hcases _ ?_ ?_
  · split <;> split <;> rfl
  · split <;> split <;> rfl

theorem relevelDropped_issue {s : State} {k : Relevel} (hk : s.balance.relevel = some k) (hroom : s.link.alerts.length < 16)
    (hfl : s.ring.inFlight.isSome = true) : RelevelDropped s k s.issue := by
  obtain ⟨fl, hfl⟩ := Option.isSome_iff_exists.1 hfl
  obtain ⟨g, hissue⟩ := issue_inFlight hfl
  obtain ⟨hgone, htold, hpitch, hroll, hsource, hband⟩ := relevelDropped_loseSweep hk hroom
  rw [hissue]
  exact ⟨hgone, htold, hpitch, hroll, hsource, hband⟩

/-- The entry into WALKING. -/
theorem relevelDropped_enterWalking {s : State} {k : Relevel} (hk : s.balance.relevel = some k)
    (hroom : s.link.alerts.length ≤ 9) : RelevelDropped s k s.enterWalking := by
  have hposted := (Link.post_length s.link
    (newAlert .stateChange .none (.state .walking none) s.ring.tag (opCode s.sup.op)) (by omega)).2
  obtain ⟨hgone, htold, hpitch, hroll, hsource, hband⟩ := relevelDropped_abort (k := k)
    (s := ({ s with sup := { s.sup with op := .walking } } : State).alertState .walking s.sup.op none) hk
    (Nat.lt_of_le_of_lt hposted (by omega))
  unfold State.enterWalking
  dsimp only
  split
  · split
    · exact ⟨hgone, htold, hpitch, hroll, hsource, hband⟩
    · exact ⟨hgone, htold, hpitch, hroll, hsource, hband⟩
  · exact ⟨hgone, htold, hpitch, hroll, hsource, hband⟩

/-- The alerts of the entry into SAFE tell it. -/
theorem abortTold_safeAlerts {s : State} {k : Relevel} (hk : s.balance.relevel = some k) (hroom : s.link.alerts.length ≤ 9)
    (hstack : s.arbiter.stack.length ≤ 4) (top : EndOutcome) (p : Posture) : AbortTold k.taken (SafeAlerts s s.link top p) := by
  have hended : (match s.arbiter.stack with
      | [] => s.link
      | e :: below => below.foldl (fun (k : Link) (e : Entry) =>
            k.post (newAlert .reflexDone (.line e.line) (.outcome .abandoned) s.ring.tag e.progress))
          (s.link.post (newAlert .reflexDone (.line e.line) (.outcome top) s.ring.tag e.progress))).alerts.length ≤ 14 := by
    cases hs : s.arbiter.stack with
    | nil => exact hroom.trans (by decide)
    | cons e below =>
      rw [hs, List.length_cons] at hstack
      have hposted := (Link.post_length s.link
        (newAlert .reflexDone (.line e.line) (.outcome top) s.ring.tag e.progress) (by omega)).2
      exact (post_foldl_length (fun e : Entry => newAlert .reflexDone (.line e.line) (.outcome .abandoned) s.ring.tag e.progress) below
        (n := 10) (by omega) (by omega)).trans (by omega)
  unfold SafeAlerts
  dsimp only
  rw [hk]
  refine abortTold_posted (Nat.lt_of_le_of_lt (Link.post_length _ _ (hended.trans (by decide))).2 (by omega)) _ _

/-! ## References from the planner -/

/-- References taken while a capture is in progress (R68, R71). -/
theorem takeReferences_aborts {s : State} {k : Relevel} (hk : s.balance.relevel = some k) (hroom : s.link.alerts.length < 16)
    (slope roll : Int) :
    (s.takeReferences slope roll).balance.relevel = none ∧ AbortTold k.taken (s.takeReferences slope roll).link
    ∧ (s.takeReferences slope roll).balance.refPitch = max (-436) (min 436 slope)
    ∧ (s.takeReferences slope roll).balance.refRoll = max (-436) (min 436 roll)
    ∧ (s.takeReferences slope roll).balance.refSource = .planner
    ∧ (s.takeReferences slope roll).balance.band
      = bandFor (s.takeReferences slope roll).balance.refPitch s.balance.t1 s.balance.t2 s.balance.t3 := by
  unfold State.takeReferences
  dsimp only
  rw [abortRelevel_some _ k (by exact hk)]
  exact ⟨rfl, abortTold_posted hroom _ _, clampI_eq _ (by decide), clampI_eq _ (by decide), rfl, rfl⟩

theorem takeGait_balance (s : State) (g : Nat) : (s.takeGait g).balance = s.balance := by
  unfold State.takeGait
  split
  · split <;> rfl
  · split
    · split <;> rfl
    · rfl

theorem takeGait_told {n : Int} {s : State} (h : AbortTold n s.link) (g : Nat) : AbortTold n (s.takeGait g).link := by
  unfold State.takeGait
  split
  · split <;> exact h
  · split
    · split <;> exact h
    · exact abortTold_post h nofun

theorem gaitTaken_balance (s : State) (f : Stride) : (gaitTaken s f).balance = s.balance := by
  unfold gaitTaken
  split
  · exact takeGait_balance ..
  · rfl

theorem gaitTaken_told {n : Int} {s : State} (h : AbortTold n s.link) (f : Stride) : AbortTold n (gaitTaken s f).link := by
  unfold gaitTaken
  split
  · exact takeGait_told h _
  · exact h

theorem requestAfter_blocks (s : State) : s.requestAfter.balance = s.balance ∧ s.requestAfter.link = s.link := by
  unfold State.requestAfter
  split <;> exact ⟨rfl, rfl⟩

theorem exec_strideFrame {s : State} {bs p : List Byte} {rest : List (List Byte)} (h : s.wires.arrived = bs :: rest)
    (hjudge : judge bs = .stride p) : exec .strideFrame s = .next ((s.dropArrived rest).receiveStride p) := by
  show execStrideFrame s = _
  unfold execStrideFrame
  rw [h]
  dsimp only
  rw [hjudge]

/-- Settles O24, case by case of what abandons the capture. -/
theorem relevelAborted : Obligations.RelevelAborted := by
  refine ⟨fun s k c hk hop hreset hroom hstack hc => ?_, fun s k bs p rest hk hop hroom harrived hjudge hreferences => ?_⟩
  · have hlink : s.link.alerts.length < 16 := Nat.lt_of_le_of_lt hroom (by decide)
    have hanswers : ∃ t, exec c s = .next t ∧ RelevelDropped s k t := by
      obtain ⟨rfl, b, rest, hslots, hunusable⟩ | ⟨rfl, hfl⟩ | ⟨f, fl, rfl, hfl, htag, hcrc⟩ | ⟨rfl, hreq⟩
        | ⟨cause, rfl, hmem⟩ := hc
      · refine ⟨_, exec_bodyRecord hslots, ?_⟩
        rw [takeBody_of_unusable _ hunusable]
        exact (relevelDropped_unusable (s := s.dropBody rest) hk hlink _).of_balance rfl
      · exact ⟨s.issue, rfl, relevelDropped_issue hk hlink hfl⟩
      · refine ⟨s.takeReturn f, rfl, ?_⟩
        rw [takeReturn_bad hfl htag hcrc]
        exact relevelDropped_loseSweep hk hlink
      · refine ⟨({ s with wires := { s.wires with walkRequests := s.wires.walkRequests - 1 } } : State).enterWalking, ?_,
          (relevelDropped_enterWalking (by exact hk) (by exact hroom)).of_balance rfl⟩
        show execWalkRequest s = _
        unfold execWalkRequest State.doWalk
        rw [if_neg (Nat.ne_of_gt hreq), if_pos ⟨.inl hop, hreset⟩]
      · refine ⟨_, (safeRequest_entered hmem).2.2 (by rw [hop]; rfl) hreset, ?_⟩
        exact ⟨rfl, abortTold_safeAlerts hk hroom hstack _ _, rfl, rfl, rfl, rfl⟩
    obtain ⟨t, hexec, hgone, htold, hpitch, hroll, hsource, hband⟩ := hanswers
    exact ⟨t, hexec, hgone, htold, hpitch, hroll, hsource, hband⟩
  · have htaken : (s.dropArrived rest).receiveStride p = ((s.dropArrived rest).countStride).takeStride (readStride p) := by
      unfold State.receiveStride State.strideIgnored
      rw [show (s.dropArrived rest).sup.op = .standing from hop]
    refine ⟨_, exec_strideFrame harrived hjudge, ?_⟩
    rw [htaken, takeStride_eq]
    obtain ⟨hbalance, hrequest⟩ := requestAfter_blocks (gaitTaken
      (referencesTaken (intentTaken (s.dropArrived rest).countStride (readStride p)) (readStride p)) (readStride p))
    rw [hbalance, hrequest, gaitTaken_balance]
    have hreferred : referencesTaken (intentTaken (s.dropArrived rest).countStride (readStride p)) (readStride p)
        = (intentTaken (s.dropArrived rest).countStride (readStride p)).takeReferences (s16 p 9) (s16 p 11) := if_pos hreferences
    rw [hreferred]
    obtain ⟨hgone, htold, hrest⟩ := takeReferences_aborts (s := intentTaken (s.dropArrived rest).countStride (readStride p)) hk
      (Nat.lt_of_le_of_lt hroom (by decide)) (s16 p 9) (s16 p 11)
    exact ⟨hgone, gaitTaken_told htold _, hrest⟩

end Sys2Proof.Machine
end

section
/-!
DEFINITION. The counted sweep returns of the reflex action unit (chapter 6): O35, O36.
-/

namespace Sys2Proof.Machine

-- One proof after another: side by side they take more threads than the memory limit of the check allows.
set_option Elab.async false

/-- The state as the reflex action unit takes its oldest sweep return. -/
def returnTaken (s : State) : State := { s with wires := { s.wires with reflexReturns := s.wires.reflexReturns - 1 } }

theorem reflexIf_of_due {s : State} (hreq : 0 < s.wires.reflexReturns) {due : Bool} (hdue : due = true) :
    s.reflexIf due = .next (returnTaken s).reflexReturn := by
  unfold State.reflexIf
  rw [if_neg (Nat.ne_of_gt hreq), if_pos hdue]
  rfl

/-! ## What a step leaves of the entry -/

theorem stepped_of_plant {e : Entry} (h : e.action = .plant) :
    e.stepped = { e with progress := e.progress + 1, reach := e.grownReach, contribution := -(e.grownReach : Int) } := by
  obtain ⟨-, heq⟩ | ⟨hne, -⟩ := e.stepped_cases
  · exact heq
  · exact absurd h hne

theorem stepped_of_not_plant {e : Entry} (h : e.action ≠ .plant) : e.stepped = { e with progress := e.progress + 1 } := by
  obtain ⟨hplant, -⟩ | ⟨-, heq⟩ := e.stepped_cases
  · exact absurd hplant h
  · exact heq

theorem stepped_action (e : Entry) : e.stepped.action = e.action := by
  obtain ⟨-, heq⟩ | ⟨-, heq⟩ := e.stepped_cases <;> rw [heq]

theorem stepWeight_of_not_crouch (s : State) {e : Entry} (h : e.action ≠ .crouch) : s.stepWeight e = s := if_neg h

theorem stepWeight_of_crouch (s : State) {e : Entry} (h : e.action = .crouch) :
    s.stepWeight e = { s with unit := { s.unit with weight := min 256 (256 * e.progress / e.duration) } } := if_pos h

/-! ## When a step finishes the action -/

theorem finishes_of_timed {e : Entry} (h : e.action = .hold ∨ e.action = .retract) :
    e.finishes = true ↔ e.duration ≤ e.progress + 1 := by
  unfold Entry.finishes
  obtain h | h := h <;> (rw [h]; exact decide_eq_true_iff)

theorem finishes_of_plant {e : Entry} (h : e.action = .plant) :
    e.finishes = true ↔ min (e.parameter * e.duration) 1023 ≤ min (e.reach + e.parameter) 1023 := by
  unfold Entry.finishes
  rw [h]
  exact decide_eq_true_iff

theorem finishes_of_crouch {e : Entry} (h : e.action = .crouch) :
    e.finishes = true ↔ 256 ≤ 256 * (e.progress + 1) / e.duration := by
  unfold Entry.finishes
  rw [h]
  refine beq_iff_eq.trans ?_
  unfold crouchWeight
  omega

theorem finishes_of_stop {e : Entry} (h : e.action = .stop) : ¬e.finishes = true := by
  unfold Entry.finishes
  rw [h]
  exact Bool.false_ne_true

/-! ## The step -/

section
variable {s : State} {e : Entry} {below : List Entry} (h : s.arbiter.stack = e :: below)
include h

theorem reflexReturn_finished (hdone : s.unit.finished ≠ .clear) : s.reflexReturn = s := by
  unfold State.reflexReturn
  rw [h]
  exact if_neg hdone

theorem reflexReturn_counts (hclear : s.unit.finished = .clear) (hmore : ¬e.finishes = true) :
    s.reflexReturn = ({ s with arbiter := { s.arbiter with stack := e.stepped :: below } } : State).stepWeight e.stepped := by
  unfold State.reflexReturn State.setTop
  rw [h]
  dsimp only
  rw [if_pos hclear, if_neg hmore, List.tail_cons]

theorem reflexReturn_finishes (hclear : s.unit.finished = .clear) (hlast : e.finishes = true) :
    s.reflexReturn = (({ s with arbiter := { s.arbiter with stack := e.stepped :: below } } : State).stepWeight
      e.stepped).actionFinished e.stepped := by
  unfold State.reflexReturn State.setTop
  rw [h]
  dsimp only
  rw [if_pos hclear, if_pos hlast, List.tail_cons]

theorem finishesTop_of_top (hclear : s.unit.finished = .clear) (hlast : e.finishes = true) : s.finishesTop e.action = true := by
  unfold State.finishesTop Arbiter.top
  rw [h, hclear]
  show (e.action == e.action && e.finishes) = true
  rw [hlast, beq_self_eq_true]
  rfl

end

/-- Settles O35, by the action of the top entry. -/
theorem reflexStepCountsTop : Obligations.ReflexStepCountsTop := by
  intro s e below hstack hreq s0 grown weight
  have hexec : exec .reflexStep s = .next (returnTaken s).reflexReturn := reflexIf_of_due hreq rfl
  have hstack0 : (returnTaken s).arbiter.stack = e :: below := hstack
  refine ⟨fun hdone => ?_, fun hclear => ⟨fun haction => ?_, fun hplant hless => ?_, fun hcrouch hless => ?_⟩⟩
  · rw [hexec, reflexReturn_finished hstack0 hdone]
    rfl
  · have hmore : ¬e.finishes = true := by
      obtain hstop | ⟨htimed, hless⟩ := haction
      · exact finishes_of_stop hstop
      · rw [finishes_of_timed htimed]
        exact Nat.not_le.2 hless
    have hother : e.action ≠ .plant ∧ e.action ≠ .crouch := by
      obtain h | ⟨h | h, -⟩ := haction <;> (rw [h]; decide)
    rw [hexec, reflexReturn_counts hstack0 hclear hmore, stepWeight_of_not_crouch _ (by rw [stepped_action]; exact hother.2),
      stepped_of_not_plant hother.1]
    rfl
  · have hmore : ¬e.finishes = true := by
      rw [finishes_of_plant hplant]
      exact Nat.not_le.2 hless
    rw [hexec, reflexReturn_counts hstack0 hclear hmore,
      stepWeight_of_not_crouch _ (by rw [stepped_action, hplant]; decide), stepped_of_plant hplant]
    rfl
  · have hmore : ¬e.finishes = true := by
      rw [finishes_of_crouch hcrouch]
      intro hfull
      exact absurd hless (by show ¬min 256 _ < 256; omega)
    rw [hexec, reflexReturn_counts hstack0 hclear hmore, stepWeight_of_crouch _ (by rw [stepped_action, hcrouch]),
      stepped_of_not_plant (by rw [hcrouch]; decide)]
    rfl

/-! ## The step that finishes an action -/

theorem lineSource_num (l : LegId) : lineSource l.num = .driveFault := by cases l <;> rfl

theorem lineSource_ne_driveFault {n : Nat} (h : 6 ≤ n) : lineSource n ≠ .driveFault := by
  unfold lineSource
  rw [if_neg (by omega)]
  split_ifs <;> decide

theorem holdFinished_reports (s : State) {e : Entry} (h : 6 ≤ e.line) : s.holdFinished e = s.finish (.reported .complete) := by
  unfold State.holdFinished
  split
  · exact absurd ‹_› (lineSource_ne_driveFault h)
  · rfl

theorem holdFinished_asks (s : State) {e : Entry} {l : LegId} (hline : e.line = l.num) (hleg : e.leg = some l) :
    s.holdFinished e = (s.askSafe (.driveFaultHold l)).finish .askedSafe := by
  unfold State.holdFinished
  rw [hline, lineSource_num, hleg]

section
variable (s : State) {e : Entry}

theorem actionFinished_hold (h : e.action = .hold) : s.actionFinished e = s.holdFinished e := by
  unfold State.actionFinished; rw [h]

theorem actionFinished_retract (h : e.action = .retract) : s.actionFinished e = s.finish (.reported .complete) := by
  unfold State.actionFinished; rw [h]

theorem actionFinished_plant (h : e.action = .plant) {l : LegId} (hleg : e.leg = some l) :
    s.actionFinished e = ((s.alert .hole (.leg l) (.line e.line) e.reach).askStop).finish (.reported .failed) := by
  unfold State.actionFinished State.plantFailed; rw [h, hleg]

theorem actionFinished_crouch (h : e.action = .crouch) : s.actionFinished e = (s.askSafe .fallCrouch).finish .askedSafe := by
  unfold State.actionFinished; rw [h]

end

/-- Settles O36, by the action that finishes. -/
theorem actionsFinish : Obligations.ActionsFinish := by
  intro s e below hstack hreq hclear s0 counted grown finishes
  have hstack0 : (returnTaken s).arbiter.stack = e :: below := hstack
  have hfinish : ∀ {c : Instr} {t : State}, e.finishes = true → exec c s = s.reflexIf (s.finishesTop e.action) →
      (({ returnTaken s with arbiter := { s.arbiter with stack := e.stepped :: below } } : State).stepWeight e.stepped).actionFinished
        e.stepped = t → finishes c t := by
    intro c t hlast hc ht
    have hreturn : (returnTaken s).reflexReturn = t := (reflexReturn_finishes hstack0 hclear hlast).trans ht
    refine ⟨?_, ?_⟩
    · rw [hc, reflexIf_of_due hreq (finishesTop_of_top hstack hclear hlast), hreturn]
    · rw [← hreturn]
      exact reflexIf_of_due hreq rfl
  refine ⟨fun haction hlast hline => ?_, fun l haction hlast hline hleg => ?_, fun haction hlast => ?_,
    fun l haction hleg hlast => ?_, fun haction hlast => ?_⟩
  · refine hfinish ((finishes_of_timed (.inl haction)).2 hlast) (by rw [haction]; rfl) ?_
    rw [stepWeight_of_not_crouch _ (by rw [stepped_action, haction]; decide),
      actionFinished_hold _ (by rw [stepped_action, haction]), stepped_of_not_plant (by rw [haction]; decide)]
    exact holdFinished_reports (e := { e with progress := e.progress + 1 }) _ hline
  · refine hfinish ((finishes_of_timed (.inl haction)).2 hlast) (by rw [haction]; rfl) ?_
    rw [stepWeight_of_not_crouch _ (by rw [stepped_action, haction]; decide),
      actionFinished_hold _ (by rw [stepped_action, haction]), stepped_of_not_plant (by rw [haction]; decide)]
    exact holdFinished_asks (e := { e with progress := e.progress + 1 }) _ hline hleg
  · refine hfinish ((finishes_of_timed (.inr haction)).2 hlast) (by rw [haction]; rfl) ?_
    rw [stepWeight_of_not_crouch _ (by rw [stepped_action, haction]; decide),
      actionFinished_retract _ (by rw [stepped_action, haction]), stepped_of_not_plant (by rw [haction]; decide)]
    rfl
  · refine hfinish ((finishes_of_plant haction).2 hlast) (by rw [haction]; rfl) ?_
    rw [stepWeight_of_not_crouch _ (by rw [stepped_action, haction]; decide),
      actionFinished_plant (l := l) _ (by rw [stepped_action, haction]) (by rw [stepped_of_plant haction]; exact hleg),
      stepped_of_plant haction]
    rfl
  · refine hfinish ((finishes_of_crouch haction).2 hlast) (by rw [haction]; rfl) ?_
    have hweight : min 256 (256 * (e.progress + 1) / e.duration) = 256 := Nat.min_eq_left hlast
    rw [stepWeight_of_crouch _ (by rw [stepped_action, haction]), actionFinished_crouch _ (by rw [stepped_action, haction]),
      stepped_of_not_plant (by rw [haction]; decide)]
    dsimp only
    rw [hweight]
    rfl

end Sys2Proof.Machine
end

section
/-!
DEFINITION. The envelope of the planner link (R164, R187), and the alert queue (R169, R170): O45, O46, O52.
-/

namespace Sys2Proof.Machine

-- One proof after another: side by side they take more threads than the memory limit of the check allows.
set_option Elab.async false

/-! ## Bytes received one by one -/

/-- The state after a byte with its stop bit. -/
def byteTaken (s : State) (b : Byte) : State :=
  { s with
    link := { s.link with rx := (rxByte s.link.rx b).1 }
    wires := { s.wires with arrived := s.wires.arrived ++ (rxByte s.link.rx b).2.toList } }

theorem exec_byteReceived (s : State) (b : Byte) : exec (.byteReceived b true) s = .next (byteTaken s b) := rfl

theorem feed_cons (s : State) (b : Byte) (bs : List Byte) : feed (b :: bs) s = feed bs (byteTaken s b) := rfl

theorem rxByte_hunting (b : Byte) : rxByte .hunting b = if b = 0xC3 then (.collecting [], none) else (.hunting, none) := rfl

theorem rxByte_length (b : Byte) : rxByte (.collecting []) b = if 120 < b.toNat then (.hunting, none) else (.collecting [b], none) :=
  rfl

theorem rxByte_last {len b : Byte} {taken : List Byte} (h : taken.length + 2 = len.toNat + 4) :
    rxByte (.collecting (len :: taken)) b = (.hunting, some (len :: (taken ++ [b]))) := by
  refine if_pos ?_
  rw [List.length_cons, List.length_append]
  exact h

theorem rxByte_more {len b : Byte} {taken : List Byte} (h : taken.length + 2 ≠ len.toNat + 4) :
    rxByte (.collecting (len :: taken)) b = (.collecting (len :: (taken ++ [b])), none) := by
  refine if_neg ?_
  rw [List.length_cons, List.length_append]
  exact h

theorem byteTaken_of_none {s : State} {b : Byte} {rx : Rx} (h : rxByte s.link.rx b = (rx, none)) :
    byteTaken s b = { s with link := { s.link with rx := rx } } := by
  unfold byteTaken
  rw [h]
  exact congrArg (fun a => ({ s with link := { s.link with rx := rx }, wires := { s.wires with arrived := a } } : State))
    (List.append_nil _)

theorem byteTaken_of_some {s : State} {b : Byte} {rx : Rx} {bs : List Byte} (h : rxByte s.link.rx b = (rx, some bs)) :
    byteTaken s b = { s with link := { s.link with rx := rx }, wires := { s.wires with arrived := s.wires.arrived ++ [bs] } } := by
  unfold byteTaken
  rw [h]
  rfl

/-- The bytes after the length byte are collected until the frame is whole. -/
theorem feed_collecting {len : Byte} (more : List Byte) :
    ∀ (s : State) (taken : List Byte) (b : Byte), s.link.rx = .collecting (len :: taken) →
      taken.length + more.length + 2 = len.toNat + 4 →
      feed (b :: more) s = .next { s with
        link := { s.link with rx := .hunting }
        wires := { s.wires with arrived := s.wires.arrived ++ [len :: (taken ++ b :: more)] } } := by
  induction more with
  | nil =>
    intro s taken b hrx hlen
    rw [feed_cons, byteTaken_of_some (by rw [hrx]; exact rxByte_last hlen)]
    rfl
  | cons b' more ih =>
    intro s taken b hrx hlen
    rw [List.length_cons] at hlen
    rw [feed_cons, byteTaken_of_none (by rw [hrx]; exact rxByte_more (by omega)),
      ih _ (taken ++ [b]) b' rfl (by rw [List.length_append, List.length_singleton]; omega), List.append_assoc]
    rfl

/-! ## The envelope -/

/-- The bytes of a frame after its start byte. -/
def frameBytes (kind : Byte) (payload : List Byte) : List Byte :=
  byte payload.length :: kind :: (payload ++ crcBytes (crc16 (byte payload.length :: kind :: payload)))

theorem envelope_eq (kind : Byte) (payload : List Byte) : envelope kind payload = 0xC3 :: frameBytes kind payload := rfl

theorem byte_toNat {n : Nat} (h : n < 256) : (byte n).toNat = n := by
  unfold byte
  rw [BitVec.toNat_ofNat]
  exact Nat.mod_eq_of_lt h

section
variable {kind : Byte} {payload : List Byte} (hlen : payload.length ≤ 120)
include hlen

theorem frameBytes_length : u8 (frameBytes kind payload) 0 = payload.length := byte_toNat (by omega)

theorem frameBytes_crcGood : arrivedCrcGood (frameBytes kind payload) = true := by
  unfold arrivedCrcGood
  rw [frameBytes_length hlen]
  unfold frameBytes
  rw [List.take_succ_cons, List.take_succ_cons, List.drop_succ_cons, List.drop_succ_cons, List.take_left, List.drop_left]
  exact beq_self_eq_true _

theorem frameBytes_payload : arrivedPayload (frameBytes kind payload) = payload := by
  unfold arrivedPayload
  rw [frameBytes_length hlen]
  exact List.take_left

theorem feed_envelope {s : State} (hrx : s.link.rx = .hunting) :
    feed (envelope kind payload) s
      = .next { s with wires := { s.wires with arrived := s.wires.arrived ++ [frameBytes kind payload] } } := by
  have htoNat : (byte payload.length).toNat = payload.length := byte_toNat (by omega)
  have hlength : rxByte (.collecting []) (byte payload.length) = (.collecting [byte payload.length], none) := by
    rw [rxByte_length, if_neg (by rw [htoNat]; omega)]
  rw [envelope_eq, feed_cons, byteTaken_of_none (by rw [hrx]; exact rxByte_hunting _)]
  unfold frameBytes
  rw [feed_cons, byteTaken_of_none (by exact hlength), feed_collecting _ _ [] kind rfl]
  · rw [← hrx]
    rfl
  · rw [List.length_append, htoNat]
    simp [crcBytes]

end

theorem u8_frameBytes_kind (kind : Byte) (payload : List Byte) : u8 (frameBytes kind payload) 1 = kind.toNat := rfl

/-! ## The judging of an arrived frame -/

theorem judge_of_bad {bs : List Byte} (h : arrivedCrcGood bs = false) : judge bs = .dropped := if_pos h

theorem judge_of_good {bs : List Byte} (h : arrivedCrcGood bs = true) :
    judge bs = if u8 bs 1 = 1 then (if u8 bs 0 = 14 then .stride (arrivedPayload bs) else .dropped)
      else if u8 bs 1 = 2 then (if u8 bs 0 < 2 then .dropped else .command ⟨false, arrivedPayload bs⟩)
      else if u8 bs 1 = 3 then (if u8 bs 0 < 2 then .dropped else .command ⟨true, arrivedPayload bs⟩)
      else .dropped := if_neg (Bool.eq_false_iff.not.2 (not_not.2 h))

/-- Settles O45. -/
theorem frameSurvivesTheEnvelope : Obligations.FrameSurvivesTheEnvelope := by
  intro s kind payload hrx hlen
  have hgood := frameBytes_crcGood (kind := kind) hlen
  have hjudge := judge_of_good hgood
  rw [frameBytes_length hlen, u8_frameBytes_kind, frameBytes_payload hlen] at hjudge
  refine ⟨frameBytes kind payload, envelope_eq .., feed_envelope hlen hrx, hgood, fun hkind h14 => ?_, fun hkind h14 => ?_,
    fun hkind h2 => ?_, fun hkind h2 => ?_, fun hkind h2 => ?_, fun h1 h2 h3 => ?_⟩
  · rw [hjudge, hkind, if_pos (by decide), if_pos h14]
  · rw [hjudge, hkind, if_pos (by decide), if_neg h14]
  · rw [hjudge, hkind, if_neg (by decide), if_pos (by decide), if_neg (Nat.not_lt.2 h2)]
  · rw [hjudge, hkind, if_neg (by decide), if_neg (by decide), if_pos (by decide), if_neg (Nat.not_lt.2 h2)]
  · obtain hkind | hkind := hkind
    · rw [hjudge, hkind, if_neg (by decide), if_pos (by decide), if_pos h2]
    · rw [hjudge, hkind, if_neg (by decide), if_neg (by decide), if_pos (by decide), if_pos h2]
  · have hne : ∀ n : Byte, kind ≠ n → kind.toNat ≠ n.toNat := fun n h heq => h (BitVec.eq_of_toNat_eq heq)
    rw [hjudge, if_neg (by exact hne 1 h1), if_neg (by exact hne 2 h2), if_neg (by exact hne 3 h3)]

theorem judge_dropped {bs : List Byte}
    (h : arrivedCrcGood bs = false ∨ (u8 bs 1 ≠ 1 ∧ u8 bs 1 ≠ 2 ∧ u8 bs 1 ≠ 3) ∨ (u8 bs 1 = 1 ∧ u8 bs 0 ≠ 14)
      ∨ ((u8 bs 1 = 2 ∨ u8 bs 1 = 3) ∧ u8 bs 0 < 2)) : judge bs = .dropped := by
  cases hcrc : arrivedCrcGood bs with
  | false => exact judge_of_bad hcrc
  | true =>
    rw [judge_of_good hcrc]
    obtain hbad | ⟨h1, h2, h3⟩ | ⟨h1, h14⟩ | ⟨h2 | h3, hshort⟩ := h
    · cases hbad.symm.trans hcrc
    · rw [if_neg h1, if_neg h2, if_neg h3]
    · rw [if_pos h1, if_neg h14]
    · rw [h2, if_neg (by decide), if_pos rfl, if_pos hshort]
    · rw [h3, if_neg (by decide), if_neg (by decide), if_pos rfl, if_pos hshort]

/-- Settles O46. -/
theorem bytesAndFramesAreDropped : Obligations.BytesAndFramesAreDropped := by
  refine ⟨fun s b => ⟨rfl, fun hrx hb => ?_, fun hrx hb => ?_, fun hrx hlong => ?_, fun hrx hfits => ?_⟩,
    fun s bs rest h hbad => ?_⟩
  · rw [exec_byteReceived, byteTaken_of_none (by rw [hrx, rxByte_hunting, if_neg hb]), ← hrx]
  · rw [exec_byteReceived, byteTaken_of_none (by rw [hrx, rxByte_hunting, if_pos hb])]
  · rw [exec_byteReceived, byteTaken_of_none (by rw [hrx, rxByte_length, if_pos hlong])]
  · rw [exec_byteReceived, byteTaken_of_none (by rw [hrx, rxByte_length, if_neg (Nat.not_lt.2 hfits)])]
  · have hdropped := judge_dropped hbad
    refine ⟨?_, ?_, ?_⟩
    · show execFrameDropped s = _
      unfold execFrameDropped
      rw [h]
      exact if_pos hdropped
    · show execStrideFrame s = _
      unfold execStrideFrame
      rw [h]
      dsimp only
      rw [hdropped]
    · show execSetupFrame s = _
      unfold execSetupFrame
      rw [h]
      dsimp only
      rw [hdropped]

/-! ## The alert queue (R169, R170) -/

theorem sameAlert_iff_queued (a b : AlertEntry) : sameAlert a b = true ↔ b.kind = a.kind ∧ b.key = a.key :=
  (sameAlert_iff a b).trans (and_congr eq_comm eq_comm)

theorem any_sameAlert_iff (a : AlertEntry) (l : List AlertEntry) :
    l.any (sameAlert a) = true ↔ ∃ x ∈ l, x.kind = a.kind ∧ x.key = a.key := by
  rw [List.any_eq_true]
  exact exists_congr fun x => and_congr_right fun _ => sameAlert_iff_queued a x

theorem map_merge_of_others {a : AlertEntry} {l : List AlertEntry} (h : ∀ x ∈ l, ¬(x.kind = a.kind ∧ x.key = a.key)) :
    l.map (fun e => if sameAlert a e then mergeAlert e a else e) = l := by
  refine (List.map_congr_left fun x hx => ?_).trans (List.map_id l)
  exact if_neg ((sameAlert_iff_queued a x).not.2 (h x hx))

/-- Settles O52. -/
theorem postedAlertMergesQueuesOrDrops : Obligations.PostedAlertMergesQueuesOrDrops := by
  refine fun k a => ⟨fun before old after hqueue hkind hkey hothers => ?_, fun hnew hroom => ?_, fun hnew hfull => ?_⟩
  · have hany : k.alerts.any (sameAlert a) = true := by
      rw [any_sameAlert_iff, hqueue]
      exact ⟨old, List.mem_append_right _ List.mem_cons_self, hkind, hkey⟩
    have hmap : k.alerts.map (fun e => if sameAlert a e then mergeAlert e a else e)
        = before ++ { a with repeats := min (old.repeats + 1) 255 } :: after := by
      rw [hqueue, List.map_append, List.map_cons, if_pos ((sameAlert_iff_queued a old).2 ⟨hkind, hkey⟩),
        map_merge_of_others fun x hx => hothers x (List.mem_append_left _ hx),
        map_merge_of_others fun x hx => hothers x (List.mem_append_right _ hx)]
      unfold mergeAlert
      rw [satSucc_eq]
    unfold Link.post
    rw [if_pos hany, hmap]
  · have hany : ¬k.alerts.any (sameAlert a) = true := by
      rw [any_sameAlert_iff]
      rintro ⟨x, hx, hsame⟩
      exact hnew x hx hsame
    unfold Link.post
    rw [if_neg hany, if_pos (show k.alerts.length < Config.alertSize from hroom)]
  · have hany : ¬k.alerts.any (sameAlert a) = true := by
      rw [any_sameAlert_iff]
      rintro ⟨x, hx, hsame⟩
      exact hnew x hx hsame
    unfold Link.post
    rw [if_neg hany, if_neg (show ¬k.alerts.length < Config.alertSize from Nat.not_lt.2 hfull)]
    exact ⟨rfl, rfl⟩

end Sys2Proof.Machine
end

section
/-!
DEFINITION. Stride frames (R165, R23, R24, R33, R68): O47, O48.
-/

namespace Sys2Proof.Machine

-- One proof after another: side by side they take more threads than the memory limit of the check allows.
set_option Elab.async false

/-! ## What a stride frame's parts leave -/

theorem rateCap_eq (w : WalkSettings) (m : PerLeg Mode) :
    rateCap w m = if m.lf = .strut ∨ m.rf = .strut ∨ m.lh = .strut ∨ m.rh = .strut then w.strutCap else w.rateCeiling := by
  unfold rateCap anyStrut PerLeg.toList
  simp only [List.any_cons, List.any_nil, Bool.or_false, Bool.or_eq_true, beq_iff_eq]

theorem takeReferences_eq (s : State) (slope roll : Int) :
    s.takeReferences slope roll = { s with
      balance := { s.balance with
        refPitch := clampI slope (-436) 436, refRoll := clampI roll (-436) 436, refSource := .planner
        band := bandFor (clampI slope (-436) 436) s.balance.t1 s.balance.t2 s.balance.t3, relevel := none }
      link := (s.takeReferences slope roll).link } := by
  unfold State.takeReferences
  dsimp only
  rw [abortRelevel_eq]

/-- The request of R24. -/
theorem requestAfter_eq (s : State) :
    s.requestAfter = { s with wires := { s.wires with
      walkRequests := s.wires.walkRequests
        + (if (s.sup.op = .standing ∨ s.sup.op = .stopping) ∧ s.engine.intent.stop = false then 1 else 0)
      stopRequests := s.wires.stopRequests + (if s.sup.op = .walking ∧ s.engine.intent.stop = true then 1 else 0) } } := by
  unfold State.requestAfter
  split
  case h_1 hop hstop => rw [hop, hstop]; rfl
  case h_2 hop hstop => rw [hop, hstop]; rfl
  case h_3 hop hstop => rw [hop, hstop]; rfl
  case h_4 hstand hstopping hwalk =>
    rw [if_neg fun h => h.1.elim (fun hop => hstand hop h.2) (fun hop => hstopping hop h.2), if_neg fun h => hwalk h.1 h.2]
    rfl

/-! ## A stride frame received -/

/-- The state as a stride frame has been counted and its intent and hold-off taken. -/
def strideCounted (s : State) (rest : List (List Byte)) (f : Stride) : State := intentTaken (s.dropArrived rest).countStride f

theorem strideIgnored_some {s : State} {stop : Bool} {reason : IgnoreReason}
    (h : (s.sup.op = .config ∧ reason = .config) ∨ (s.sup.op = .safe ∧ reason = .safe)
      ∨ (s.sup.op = .stopping ∧ s.sup.resetPending = true ∧ stop = false ∧ reason = .resetPending)) :
    s.strideIgnored stop = some reason := by
  unfold State.strideIgnored
  obtain ⟨hop, rfl⟩ | ⟨hop, rfl⟩ | ⟨hop, hreset, hstop, rfl⟩ := h
  · rw [hop]
  · rw [hop]
  · rw [hop, hreset, hstop]
    rfl

theorem strideIgnored_none {s : State} {stop : Bool}
    (h : s.sup.op = .standing ∨ s.sup.op = .walking ∨ (s.sup.op = .stopping ∧ (s.sup.resetPending = false ∨ stop = true))) :
    s.strideIgnored stop = none := by
  unfold State.strideIgnored
  obtain hop | hop | ⟨hop, hreset | hstop⟩ := h
  · rw [hop]
  · rw [hop]
  · rw [hop, hreset]
    rfl
  · rw [hop, hstop, Bool.not_true, Bool.and_false]
    rfl

theorem isStop_readStride (p : List Byte) : (readStride p).isStop = ((u8 p 7).testBit 0 || u16 p 0 == 0) := rfl

section
variable {s : State} {bs p : List Byte} {rest : List (List Byte)} (h : s.wires.arrived = bs :: rest) (hjudge : judge bs = .stride p)
include h hjudge

theorem strideFrame_ignored {reason : IgnoreReason} (hignored : s.strideIgnored (readStride p).isStop = some reason) :
    exec .strideFrame s = .next { s with
      wires := { s.wires with arrived := rest }
      engine := { s.engine with intentAge := 0, linkLossArmed := true }
      link := s.link.post (newAlert .strideIgnored .none (.reason reason) s.ring.tag 0) } := by
  rw [exec_strideFrame h hjudge]
  unfold State.receiveStride
  dsimp only
  rw [show (s.dropArrived rest).strideIgnored (readStride p).isStop = some reason from hignored]
  rfl

theorem strideFrame_taken (htaken : s.strideIgnored (readStride p).isStop = none) :
    exec .strideFrame s = .next (gaitTaken (referencesTaken (strideCounted s rest (readStride p)) (readStride p))
      (readStride p)).requestAfter := by
  rw [exec_strideFrame h hjudge]
  unfold State.receiveStride
  dsimp only
  rw [show (s.dropArrived rest).strideIgnored (readStride p).isStop = none from htaken]
  rfl

end

theorem gaitTaken_none {s : State} {p : List Byte} (h : u8 p 8 = 255) : gaitTaken s (readStride p) = s := by
  unfold gaitTaken readStride
  dsimp only
  rw [if_pos h]

theorem gaitTaken_some {s : State} {p : List Byte} (h : u8 p 8 ≠ 255) : gaitTaken s (readStride p) = s.takeGait (u8 p 8) := by
  unfold gaitTaken readStride
  dsimp only
  rw [if_neg h]

theorem referencesTaken_without {s : State} {p : List Byte} (h : (u8 p 7).testBit 1 = false) : referencesTaken s (readStride p) = s :=
  if_neg (Bool.eq_false_iff.1 h)

theorem referencesTaken_with {s : State} {p : List Byte} (h : (u8 p 7).testBit 1 = true) :
    referencesTaken s (readStride p) = s.takeReferences (s16 p 9) (s16 p 11) := if_pos h

theorem strideCounted_engine (s : State) (rest : List (List Byte)) (p : List Byte) :
    (strideCounted s rest (readStride p)).engine = { s.engine with
      intent := {
        rateTarget := if ((u8 p 7).testBit 0 || u16 p 0 == 0) = true then s.engine.intent.rateTarget
          else clampN (u16 p 0) s.engine.walk.rateFloor (if s.sup.modes.lf = .strut ∨ s.sup.modes.rf = .strut ∨ s.sup.modes.lh = .strut
            ∨ s.sup.modes.rh = .strut then s.engine.walk.strutCap else s.engine.walk.rateCeiling)
        ampTarget := min (u16 p 2) 256, turn := clampI (s16 p 4) (-128) 127
        direction := if u8 p 6 = 0 then .forward else .backward, stop := (u8 p 7).testBit 0 || u16 p 0 == 0 }
      intentAge := 0, linkLossArmed := true, holdOff := u8 p 13 } := by
  rw [← rateCap_eq]
  rfl

/-- What the references leave of the blocks (R68, R71). -/
theorem referencesTaken_blocks (s : State) (f : Stride) :
    referencesTaken s f = { s with balance := (referencesTaken s f).balance, link := (referencesTaken s f).link } := by
  unfold referencesTaken
  split
  · rw [takeReferences_eq]
  · rfl

/-- Settles O47. -/
theorem strideFrameIgnoredOrTaken : Obligations.StrideFrameIgnoredOrTaken := by
  refine ⟨fun s bs p rest reason h hjudge hreason => strideFrame_ignored h hjudge (strideIgnored_some ?_), ?_⟩
  · obtain hconfig | hsafe | ⟨hop, hreset, hflag, hrate, hreason⟩ := hreason
    · exact .inl hconfig
    · exact .inr (.inl hsafe)
    · refine .inr (.inr ⟨hop, hreset, ?_, hreason⟩)
      rw [isStop_readStride, hflag, beq_eq_false_iff_ne.2 hrate]
      rfl
  · intro s bs p rest h hjudge hgait stop hstate cap
    have hexec := strideFrame_taken h hjudge (strideIgnored_none (stop := (readStride p).isStop) hstate)
    rw [gaitTaken_none hgait, requestAfter_eq, referencesTaken_blocks] at hexec
    have hengine := strideCounted_engine s rest p
    refine ⟨_, hexec, hengine, fun hwithout => ?_, fun hwith => ?_, rfl, rfl⟩
    · dsimp only
      rw [referencesTaken_without hwithout]
      exact ⟨rfl, rfl⟩
    · dsimp only
      rw [referencesTaken_with hwith, takeReferences_eq]
      rfl

/-! ## A stride frame that names a gait (R33) -/

section
variable {s : State} {g : Nat}

theorem takeGait_current (hg : g = s.engine.current) :
    s.takeGait g = if s.sup.op = .standing then s else { s with engine := { s.engine with pendingGait := none } } := if_pos hg

theorem takeGait_legal (hg : g ≠ s.engine.current) (hlegal : g ≤ 15 ∧ legal (s.gait g) s.sup.modes = true) :
    s.takeGait g = if s.sup.op = .standing then s.gaitNow g else { s with engine := { s.engine with pendingGait := some g } } := by
  unfold State.takeGait
  rw [if_neg hg, if_pos hlegal]

theorem takeGait_bad (hg : g ≠ s.engine.current) (hbad : 16 ≤ g ∨ legal (s.gait g) s.sup.modes = false) :
    s.takeGait g = s.alert .badGait .none .none g := by
  unfold State.takeGait
  rw [if_neg hg, if_neg]
  rintro ⟨hle, hlegal⟩
  obtain hlarge | hillegal := hbad
  · exact absurd hle (Nat.not_le.2 hlarge)
  · cases hillegal.symm.trans hlegal

theorem gaitNow_slot (s : State) (g : Nat) {l : LegId} {m : Member} {mirror : Bool}
    (h : slotMember (s.gait g) s.sup.modes l = some (m, mirror)) :
    (s.gaitNow g).engine.slots.get l = parkedSlot (s.header m.bank).touchdown m mirror := by
  show PerLeg.get (.ofFn (State.reparked { s with engine := { s.engine with current := g } })) l = _
  rw [PerLeg.get_ofFn]
  exact reparked_of_member (s := { s with engine := { s.engine with current := g } }) h

/-- What a gait named leaves of the other blocks. -/
theorem takeGait_blocks (s : State) (g : Nat) :
    s.takeGait g = { s with engine := (s.takeGait g).engine, monitor := (s.takeGait g).monitor, link := (s.takeGait g).link } := by
  unfold State.takeGait
  split
  · split <;> rfl
  · split
    · split <;> rfl
    · rfl

end

/-- Settles O48, by what the named entry is. -/
theorem strideFrameNamesGait : Obligations.StrideFrameNamesGait := by
  intro s bs p rest h hjudge hnamed hwithout hstate g
  have hstate' : s.sup.op = .standing ∨ s.sup.op = .walking
      ∨ (s.sup.op = .stopping ∧ (s.sup.resetPending = false ∨ (readStride p).isStop = true)) := by
    obtain hop | hop | ⟨hop, hreset⟩ := hstate
    · exact .inl hop
    · exact .inr (.inl hop)
    · exact .inr (.inr ⟨hop, .inl hreset⟩)
  have hexec := strideFrame_taken h hjudge (strideIgnored_none hstate')
  rw [gaitTaken_some hnamed, referencesTaken_without hwithout, requestAfter_eq] at hexec
  generalize hu : strideCounted s rest (readStride p) = u at hexec
  have hcurrent : u.engine.current = s.engine.current := by rw [← hu]; rfl
  have hpending : u.engine.pendingGait = s.engine.pendingGait := by rw [← hu]; rfl
  have hslots : u.engine.slots = s.engine.slots := by rw [← hu]; rfl
  have hlink : u.link = s.link := by rw [← hu]; rfl
  have hsup : u.sup = s.sup := by rw [← hu]; rfl
  have hentry : u.gait g = s.gait g := by rw [← hu]; rfl
  refine ⟨_, hexec, fun hg hbad => ?_, fun hg => ?_, fun hg hlow hlegal => ?_, ?_⟩
  · have ht := takeGait_bad (s := u) (g := g) (by rw [hcurrent]; exact hg) (by rw [hentry, hsup]; exact hbad)
    dsimp only
    rw [ht]
    refine ⟨hcurrent, hpending, hslots, ?_⟩
    show u.link.post _ = _
    rw [hlink]
    have htag : u.ring.tag = s.ring.tag := by rw [← hu]; rfl
    rw [htag]
    rfl
  · have ht := takeGait_current (s := u) (g := g) (by rw [hcurrent]; exact hg)
    rw [hsup] at ht
    by_cases hop : s.sup.op = .standing
    · dsimp only
      rw [ht, if_pos hop]
      exact ⟨hcurrent.trans hg.symm, hslots, hlink, fun hne => absurd hop hne, fun _ => hpending⟩
    · dsimp only
      rw [ht, if_neg hop]
      exact ⟨hcurrent.trans hg.symm, hslots, hlink, fun _ => rfl, fun heq => absurd heq hop⟩
  · have ht := takeGait_legal (s := u) (g := g) (by rw [hcurrent]; exact hg)
      ⟨Nat.le_of_lt_succ hlow, by rw [hentry, hsup]; exact hlegal⟩
    rw [hsup] at ht
    by_cases hop : s.sup.op = .standing
    · dsimp only
      rw [ht, if_pos hop]
      refine ⟨hlink, fun hne => absurd hop hne, fun _ => ⟨rfl, hpending, fun l m mirror hm => ?_⟩⟩
      refine (gaitNow_slot u g (by rw [hentry, hsup]; exact hm)).trans ?_
      rw [← hu]
      rfl
    · dsimp only
      rw [ht, if_neg hop]
      exact ⟨hlink, fun _ => ⟨rfl, hcurrent, hslots⟩, fun heq => absurd heq hop⟩
  · dsimp only
    rw [takeGait_blocks, ← hu]
    exact ⟨rfl, rfl, rfl, rfl, rfl, rfl, rfl, rfl, rfl⟩

end Sys2Proof.Machine
end

section
/-!
DEFINITION. The status images and the transmitter (R161, R170 to R172), and the bytes of the frames sent (R189 to R192): O50.
-/

namespace Sys2Proof.Machine

-- One proof after another: side by side they take more threads than the memory limit of the check allows.
set_option Elab.async false

/-! ## The bytes of a field (R186) -/

/-- An unsigned field's two bytes are the quotient and the remainder of 256. -/
theorem bytes16_eq (w : BitVec 16) : bytes16 w = be16 w.toNat := by
  unfold bytes16 crcBytes be16
  refine congrArg₂ (fun a b => [a, b]) ?_ ?_ <;> apply BitVec.eq_of_toNat_eq <;>
    simp only [BitVec.toNat_setWidth, BitVec.toNat_ushiftRight, BitVec.toNat_ofNat, Nat.shiftRight_eq_div_pow]

theorem field16_eq (n : Nat) : field16 n = be16 n := by
  unfold field16
  rw [bytes16_eq]
  unfold be16
  refine congrArg₂ (fun a b => [a, b]) ?_ ?_ <;> apply BitVec.eq_of_toNat_eq <;> simp only [BitVec.toNat_ofNat] <;> omega

/-- A four-byte field is the two's complement of any number that reads as it. -/
theorem bytes32_eq {w : BitVec 32} {n : Int} (h : (w.toNat : Int) = n % 4294967296) : bytes32 w = be32s n := by
  unfold bytes32 be32s
  refine congrArg₂ (fun a b => a :: b) ?_ (congrArg₂ (fun a b => a :: b) ?_ (congrArg₂ (fun a b => [a, b]) ?_ ?_)) <;>
    apply BitVec.eq_of_toNat_eq <;>
    simp only [BitVec.toNat_setWidth, BitVec.toNat_ushiftRight, BitVec.toNat_ofInt, Nat.shiftRight_eq_div_pow] <;> omega

theorem fieldS32_eq (n : Int) : fieldS32 n = be32s n := by
  refine bytes32_eq ?_
  rw [BitVec.toNat_ofInt]
  omega

theorem bytes32_toNat (w : BitVec 32) : bytes32 w = be32s w.toNat := bytes32_eq (by have := w.isLt; omega)

theorem flag_eq (b : Bool) : flag b = bit b := rfl

/-! ## The frames sent -/

theorem legImageBytes_eq (x : LegImage) :
    legImageBytes x = ([byte x.mode.code] : List Byte) ++ be16 x.phase.toNat
      ++ [byte x.motion.code, byte x.contact.code, bit x.degraded]
      ++ be16s x.prev.ab ++ be16s x.prev.hf ++ be16s x.prev.kn := by
  unfold legImageBytes
  rw [bytes16_eq, bytesS16_eq, bytesS16_eq, bytesS16_eq, flag_eq]

theorem reply_bytes (r : Reply) : txBytes (.reply r) = envelope 0x81 ([r.command, r.tag, (match r.code with
      | .done => 0 | .deferred => 1 | .state => 2 | .inUse => 3 | .range => 4 | .order => 5 | .notReady => 6 | .full => 7)]
      ++ r.data) := by
  refine congrArg (fun c => envelope 0x81 ([r.command, r.tag, c] ++ r.data)) ?_
  cases r.code <;> rfl

/-! ## The image (R171) -/

theorem image_leg (s : State) (l : LegId) : s.image.legs.get l = s.legImage l := PerLeg.get_ofFn ..

theorem degraded_iff (s : State) (l : LegId) :
    s.degraded l = true ↔ s.monitor.settings.maxAge < (s.monitor.legs.get l).age := decide_eq_true_iff

section
variable {s : State} (h : 0 < s.wires.statusReturns)
include h

theorem statusImage_off (hoff : s.link.interval = 0) :
    exec .statusImage s = .next { s with wires := { s.wires with statusReturns := s.wires.statusReturns - 1 } } := by
  show execStatusImage s = _
  unfold execStatusImage
  dsimp only
  rw [if_neg (Nat.ne_of_gt h), if_pos hoff]

theorem statusImage_counts (hmore : s.link.statusCount + 1 < s.link.interval) :
    exec .statusImage s = .next { s with
      wires := { s.wires with statusReturns := s.wires.statusReturns - 1 }
      link := { s.link with statusCount := s.link.statusCount + 1 } } := by
  show execStatusImage s = _
  unfold execStatusImage
  dsimp only
  rw [if_neg (Nat.ne_of_gt h), if_neg (by omega), if_neg (Nat.not_le.2 hmore)]

theorem statusImage_fills (hlast : s.link.statusCount + 1 = s.link.interval) :
    exec .statusImage s = .next { s with
      wires := { s.wires with statusReturns := s.wires.statusReturns - 1 }
      link := { s.link with statusCount := 0, statusBuf := some s.image } } := by
  show execStatusImage s = _
  unfold execStatusImage
  dsimp only
  rw [if_neg (Nat.ne_of_gt h), if_neg (by omega), if_pos (Nat.le_of_eq hlast.symm)]

end

/-! ## The transmitter (R172) -/

section
variable {s : State}

theorem transmitStart_of_choice (hidle : s.link.sending = none) {item : TxItem} {k : Link} (hchoice : s.link.choose = some (item, k)) :
    exec .transmitStart s = .next { s with link := { k with sending := some item } } := by
  show execTransmitStart s = _
  unfold execTransmitStart
  rw [hidle, hchoice]

theorem transmitStart_of_none (hchoice : s.link.choose = none) : exec .transmitStart s = .next s := by
  show execTransmitStart s = _
  unfold execTransmitStart
  rw [hchoice]
  cases s.link.sending <;> rfl

theorem transmitStart_of_busy (hbusy : s.link.sending.isSome = true) : exec .transmitStart s = .next s := by
  obtain ⟨item, hitem⟩ := Option.isSome_iff_exists.1 hbusy
  show execTransmitStart s = _
  unfold execTransmitStart
  rw [hitem]

theorem choose_reply {r : Reply} {rest : List Reply} (h : s.link.replies = r :: rest) :
    s.link.choose = some (.reply r, { s.link with replies := rest }) := by
  unfold Link.choose; rw [h]

theorem choose_alert {a : AlertEntry} {rest : List AlertEntry} (hreplies : s.link.replies = []) (h : s.link.alerts = a :: rest) :
    s.link.choose = some (.alert a, { s.link with alerts := rest }) := by
  simp only [Link.choose, hreplies, h]

theorem choose_image {i : StatusImage} (hreplies : s.link.replies = []) (halerts : s.link.alerts = [])
    (h : s.link.statusBuf = some i) : s.link.choose = some (.status i, { s.link with statusBuf := none }) := by
  simp only [Link.choose, hreplies, halerts, h]

theorem choose_none (hreplies : s.link.replies = []) (halerts : s.link.alerts = []) (h : s.link.statusBuf = none) :
    s.link.choose = none := by
  simp only [Link.choose, hreplies, halerts, h]

/-- The state once the frame that carries an item has been sent in full. -/
def itemSent (s : State) (item : TxItem) : State :=
  match item with
  | .status i => ({ s with link := { s.link with sending := none } } : State).statusSent i
  | .reply _ | .alert _ => { s with link := { s.link with sending := none } }

theorem frameSent_of_sending {item : TxItem} (h : s.link.sending = some item) : exec .frameSent s = .next (itemSent s item) := by
  show execFrameSent s = _
  unfold execFrameSent
  rw [h]
  cases item <;> rfl

end

/-- A mark is cleared by a frame that carried it set, and has not been set again since. -/
theorem mark_cleared {mark carried : Bool} {epoch now : Nat} :
    (carried = true → epoch = now → (mark && !(carried && epoch == now)) = false)
    ∧ (carried = false ∨ epoch ≠ now → (mark && !(carried && epoch == now)) = mark) := by
  refine ⟨fun hcarried hsame => ?_, fun h => ?_⟩
  · rw [hcarried, hsame, beq_self_eq_true]
    exact Bool.and_false _
  · obtain hnot | hlater := h
    · rw [hnot]
      exact Bool.and_true _
    · rw [beq_eq_false_iff_ne.2 hlater, Bool.and_false]
      exact Bool.and_true _

/-- Settles O50. -/
theorem statusImagesAndTransmission : Obligations.StatusImagesAndTransmission := by
  refine ⟨fun s h => ⟨statusImage_off h, statusImage_counts h, fun hlast => ?_⟩, fun s => ⟨fun hidle => ?_, transmitStart_of_busy,
    fun r h => frameSent_of_sending h, fun a h => frameSent_of_sending h, fun i h => ?_⟩, reply_bytes, fun a => ?_, fun i => ?_⟩
  · refine ⟨s.image, statusImage_fills h hlast, rfl, rfl, rfl, rfl, rfl, rfl, rfl, rfl, rfl, rfl, rfl, rfl, rfl, rfl, rfl, rfl,
      fun l => ?_⟩
    rw [image_leg]
    exact ⟨rfl, rfl, rfl, rfl, degraded_iff s l, rfl⟩
  · exact ⟨fun r rest h => transmitStart_of_choice hidle (choose_reply h),
      fun a rest hreplies h => transmitStart_of_choice hidle (choose_alert hreplies h),
      fun i hreplies halerts h => transmitStart_of_choice hidle (choose_image hreplies halerts h),
      fun hreplies halerts h => transmitStart_of_none (choose_none hreplies halerts h)⟩
  · exact ⟨_, frameSent_of_sending h, rfl, mark_cleared.1, mark_cleared.2, mark_cleared.1, mark_cleared.2⟩
  · refine congrArg (envelope 0x82) ?_
    unfold alertPayload
    rw [fieldS32_eq]
    refine congrArg (· ++ be32s a.value ++ [BitVec.ofNat 8 a.repeats])
      (congrArg₂ List.cons ?_ (congrArg₂ List.cons ?_ (congrArg₂ List.cons ?_ rfl)))
    · cases a.kind <;> rfl
    · cases a.key with
      | none => rfl
      | line n => rfl
      | leg l => cases l <;> rfl
    · cases a.detail with
      | none => rfl
      | disposition d => cases d <;> rfl
      | outcome o => cases o <;> rfl
      | line n => rfl
      | mode m => cases m <;> rfl
      | state op p =>
        cases p with
        | none => rfl
        | some p => cases p <;> rfl
      | reason r => cases r <;> rfl
  · intro leg
    have hleg : ∀ x : LegImage, legImageBytes x = leg x := by
      intro x
      rw [legImageBytes_eq]
      show _ = _ ++ _ ++ _ ++ _ ++ _ ++ _
      cases x.mode <;> cases x.motion <;> cases x.contact <;> rfl
    refine congrArg (envelope 0x83) ?_
    unfold statusPayload
    rw [bytes16_eq, field16_eq, field16_eq, field16_eq, bytesS16_eq, bytesS16_eq, bytes32_toNat, hleg, hleg, hleg, hleg]
    cases i.op <;> cases i.pendingGait <;> cases i.topLine <;> rfl

end Sys2Proof.Machine
end

section
/-!
DEFINITION. The settings of CONFIG and of the rest states (R61, R62, R69, R73, R79, R135, R145, R177, R178): O55, O56.
-/

namespace Sys2Proof.Machine

-- One proof after another: side by side they take more threads than the memory limit of the check allows.
set_option Elab.async false

/-! ## A command with a STATE and a RANGE check -/

section
variable {s : State} {f : CmdFrame} {c : Instr} {outside bad : Bool} {accepted : State} {allowed fits : Prop}

/-- The three answers of a command that checks the operating state, then its ranges (R174). -/
theorem settled (hexec : exec c s = .next (s.checked f [(outside, .state), (bad, .range)] accepted))
    (hallowed : outside = false ↔ allowed) (hfits : bad = false ↔ fits) :
    (¬allowed → exec c s = .next (s.refuse f .state))
    ∧ (allowed → ¬fits → exec c s = .next (s.refuse f .range))
    ∧ (allowed → fits → exec c s = .next (accepted.reply f .done [])) := by
  rw [checked_cons, checked_cons, checked_nil] at hexec
  rw [← hallowed, ← hfits]
  cases outside with
  | true => exact ⟨fun _ => hexec, fun h => (nomatch h), fun h => (nomatch h)⟩
  | false =>
    refine ⟨fun h => absurd rfl h, fun _ hbad => ?_, fun _ hgood => ?_⟩
    · cases bad with
      | true => exact hexec
      | false => exact absurd rfl hbad
    · cases hgood
      exact hexec

end

theorem outside_rest_iff (op : OpState) : (!op.isAtRest) = false ↔ (op = .config ∨ op = .standing) := by cases op <;> decide

theorem outside_config_iff (op : OpState) : (op != .config) = false ↔ op = .config := by cases op <;> decide

theorem not_eq_false_iff (b : Bool) : (!b) = false ↔ b = true := by cases b <;> decide

/-! ## The ranges -/

theorem inRange_iff (x lo hi : Int) : inRange x lo hi = true ↔ lo ≤ x ∧ x ≤ hi := by
  unfold inRange
  rw [Bool.and_eq_true, decide_eq_true_iff, decide_eq_true_iff]

theorem inRangeN_iff (x lo hi : Nat) : inRangeN x lo hi = true ↔ lo ≤ x ∧ x ≤ hi := by
  unfold inRangeN
  rw [Bool.and_eq_true, decide_eq_true_iff, decide_eq_true_iff]

theorem contactSettings_good_iff (c : ContactSettings) :
    c.good = true ↔ ((2 ≤ c.onThreshold ∧ c.onThreshold ≤ 2000) ∧ (1 ≤ c.offThreshold ∧ c.offThreshold < c.onThreshold)
        ∧ (1 ≤ c.onCount ∧ c.onCount ≤ 8) ∧ (1 ≤ c.offCount ∧ c.offCount ≤ 8) ∧ c.earlyMargin ≤ 32768
        ∧ c.lateMargin ≤ 32768 ∧ c.unloadMargin ≤ 32768 ∧ (20 ≤ c.slipThreshold ∧ c.slipThreshold ≤ 1000)
        ∧ (1 ≤ c.slipCount ∧ c.slipCount ≤ 15) ∧ (1 ≤ c.torqueCount ∧ c.torqueCount ≤ 15)
        ∧ (1000 ≤ c.maxAge ∧ c.maxAge ≤ 65000)) := by
  unfold ContactSettings.good
  simp only [Bool.and_eq_true, inRangeN_iff, decide_eq_true_iff]
  omega

theorem walkSettings_good_iff (w : WalkSettings) :
    w.good = true ↔ ((64 ≤ w.rateCeiling ∧ w.rateCeiling ≤ 2048) ∧ (1 ≤ w.rateFloor ∧ w.rateFloor ≤ w.rateCeiling)
        ∧ (w.rateFloor ≤ w.strutCap ∧ w.strutCap ≤ w.rateCeiling) ∧ (1 ≤ w.rateStep ∧ w.rateStep ≤ 256)
        ∧ (1 ≤ w.ampStep ∧ w.ampStep ≤ 64) ∧ (10 ≤ w.intentTimeout ∧ w.intentTimeout ≤ 1000)) := by
  unfold WalkSettings.good
  simp only [Bool.and_eq_true, inRangeN_iff, and_assoc]

theorem jointLimits_good_iff (x : JointLimits) :
    x.good = true ↔ ((-3141 ≤ x.min ∧ x.min ≤ 3141) ∧ (-3141 ≤ x.max ∧ x.max ≤ 3141)
        ∧ (x.min ≤ x.neutral ∧ x.neutral ≤ x.max) ∧ (x.min ≤ x.stow ∧ x.stow ≤ x.max)
        ∧ (1 ≤ x.maxStep ∧ x.maxStep ≤ 200) ∧ (1 ≤ x.torque ∧ x.torque ≤ 3000)) := by
  unfold JointLimits.good
  simp only [Bool.and_eq_true, inRangeN_iff, inRange_iff]
  omega

/-! ## SET-CONTACT and degraded legs (R51, R61, R62) -/

/-- What becomes of a leg's record as degraded is worked out anew. -/
def restaled (c : LegContact) (was now : Bool) : LegContact :=
  { c with staleArm := if was = false ∧ now = true then false else if was = true ∧ now = false then true else c.staleArm }

/-- The leg becomes degraded with its stale arm armed. -/
def becomesStale (s : State) (was : LegId → Bool) (l : LegId) : Bool :=
  (s.monitor.legs.get l).staleArm && !was l && s.degraded l

/-- The raise of a leg that becomes degraded. -/
def staleRaise (s : State) (l : LegId) : Raise := { line := 28 + l.num, value := (s.monitor.legs.get l).age, tag := s.ring.tag }

/-- Nothing differs but the monitor's records and the raises. -/
def RecordsRaised (s t : State) : Prop :=
  t = { s with monitor := { s.monitor with legs := t.monitor.legs }, wires := { s.wires with raises := t.wires.raises } }

theorem RecordsRaised.trans {s t u : State} (h : RecordsRaised s t) (k : RecordsRaised t u) : RecordsRaised s u := by
  unfold RecordsRaised at h k
  rw [h] at k
  exact k

theorem staleTest_taken (s : State) (l : LegId) (was : LegId → Bool) :
    (s.staleTest l (was l)).monitor.legs.get l = restaled (s.monitor.legs.get l) (was l) (s.degraded l)
    ∧ (∀ m, m ≠ l → (s.staleTest l (was l)).monitor.legs.get m = s.monitor.legs.get m)
    ∧ (s.staleTest l (was l)).wires.raises = s.wires.raises ++ (if becomesStale s was l then [staleRaise s l] else [])
    ∧ RecordsRaised s (s.staleTest l (was l)) := by
  rw [staleTest_eq]
  have htaken : SlotTaken l s _ := slotTaken_detected s l
    (was l = false ∧ s.degraded l = true ∧ (s.monitor.legs.get l).staleArm = true) { s.monitor.legs.get l with staleArm := false }
    (if was l = true ∧ s.degraded l = false then { s.monitor.legs.get l with staleArm := true } else s.monitor.legs.get l)
    (lineOf .baselineStale l) (s.monitor.legs.get l).age
  refine ⟨?_, htaken.others, ?_, ?_⟩
  · rw [detected_record]
    unfold restaled
    cases was l <;> cases s.degraded l <;> cases harm : (s.monitor.legs.get l).staleArm <;> simp [← harm]
  · rw [detected_raises]
    refine congrArg (s.wires.raises ++ ·) ?_
    unfold becomesStale
    exact if_congr (by simp [and_comm, and_assoc]) rfl rfl
  · have hframe := htaken.frame
    rw [detected_unit] at hframe
    exact hframe

/-- Degraded is worked out anew for the legs of a list, in its order. -/
structure Restaled (was : LegId → Bool) (ls : List LegId) (s t : State) : Prop where
  taken : ∀ l ∈ ls, t.monitor.legs.get l = restaled (s.monitor.legs.get l) (was l) (s.degraded l)
  kept : ∀ l, l ∉ ls → t.monitor.legs.get l = s.monitor.legs.get l
  raises : t.wires.raises = s.wires.raises ++ (ls.filter (becomesStale s was)).map (staleRaise s)
  frame : RecordsRaised s t

theorem restaled_foldl (was : LegId → Bool) {ls : List LegId} (hnodup : ls.Nodup) (s : State) :
    Restaled was ls s (ls.foldl (fun t l => t.staleTest l (was l)) s) := by
  induction ls generalizing s with
  | nil => exact ⟨fun _ h => (nomatch h), fun _ _ => rfl, (List.append_nil _).symm, rfl⟩
  | cons l ls ih =>
    obtain ⟨hnot, hnodup⟩ := List.nodup_cons.1 hnodup
    obtain ⟨hrecord, hothers, hraises, hframe⟩ := staleTest_taken s l was
    obtain ⟨htaken, hkept, hmore, hrest⟩ := ih hnodup (s.staleTest l (was l))
    have hne : ∀ m ∈ ls, m ≠ l := fun m hm heq => hnot (heq ▸ hm)
    have hdegraded : ∀ m ∈ ls, (s.staleTest l (was l)).degraded m = s.degraded m := by
      intro m hm
      unfold State.degraded
      rw [hothers m (hne m hm), hframe]
    have hstale : ∀ m ∈ ls, becomesStale (s.staleTest l (was l)) was m = becomesStale s was m := by
      intro m hm
      unfold becomesStale
      rw [hothers m (hne m hm), hdegraded m hm]
    have hraise : ∀ m ∈ ls.filter (becomesStale s was), staleRaise (s.staleTest l (was l)) m = staleRaise s m := by
      intro m hm
      unfold staleRaise
      rw [hothers m (hne m (List.mem_of_mem_filter hm)), hframe]
    refine ⟨fun m hm => ?_, fun m hm => ?_, ?_, ?_⟩
    · obtain rfl | hm := List.mem_cons.1 hm
      · exact (hkept m hnot).trans hrecord
      · rw [List.foldl_cons, htaken m hm, hothers m (hne m hm), hdegraded m hm]
    · obtain ⟨hml, hmls⟩ := not_or.1 fun h => hm (List.mem_cons.2 h)
      exact (hkept m hmls).trans (hothers m hml)
    · rw [List.foldl_cons, hmore, hraises, List.filter_congr hstale, List.map_congr_left hraise, List.filter_cons, List.append_assoc]
      refine congrArg (s.wires.raises ++ ·) ?_
      split <;> rfl
    · exact RecordsRaised.trans hframe hrest

theorem restaled_cases (c : LegContact) (was now : Bool) :
    restaled c was now = { c with staleArm := (restaled c was now).staleArm }
    ∧ (was = false → now = true → (restaled c was now).staleArm = false)
    ∧ (was = true → now = false → (restaled c was now).staleArm = true)
    ∧ (was = now → (restaled c was now).staleArm = c.staleArm) := by
  refine ⟨rfl, ?_, ?_, ?_⟩ <;> cases was <;> cases now <;> simp [restaled]

theorem applyContact_restaled (s : State) (c : ContactSettings) :
    Restaled s.degraded LegId.all { s with monitor := { s.monitor with settings := c } } (s.applyContact c) :=
  restaled_foldl _ legs_nodup _

/-! ## The settings of the rest states -/

theorem RecordsRaised.reply {s t : State} {c : ContactSettings}
    (h : RecordsRaised { s with monitor := { s.monitor with settings := c } } t) (f : CmdFrame) :
    t.reply f .done [] = { s with
      monitor := t.monitor, wires := { s.wires with raises := t.wires.raises }
      link := (s.reply f .done []).link } := by
  unfold RecordsRaised at h
  rw [h]
  rfl

theorem setContact_accepted (s : State) (f : CmdFrame) (c : ContactSettings) :
    let t := (s.applyContact c).reply f .done []
    let was (l : LegId) : Prop := s.monitor.settings.maxAge < (s.monitor.legs.get l).age
    let now (l : LegId) : Prop := c.maxAge < (s.monitor.legs.get l).age
    t.monitor.settings = c
      ∧ (∀ l, t.monitor.legs.get l = { s.monitor.legs.get l with staleArm := (t.monitor.legs.get l).staleArm }
        ∧ (¬was l → now l → (t.monitor.legs.get l).staleArm = false)
        ∧ (was l → ¬now l → (t.monitor.legs.get l).staleArm = true)
        ∧ ((was l ↔ now l) → (t.monitor.legs.get l).staleArm = (s.monitor.legs.get l).staleArm))
      ∧ t.wires.raises = s.wires.raises
        ++ ((LegId.all.filter fun l => (s.monitor.legs.get l).staleArm
              && !decide (s.monitor.settings.maxAge < (s.monitor.legs.get l).age)
              && decide (c.maxAge < (s.monitor.legs.get l).age)).map fun l =>
            { line := 28 + l.num, value := (s.monitor.legs.get l).age, tag := s.ring.tag })
      ∧ t = { s with
          monitor := t.monitor, wires := { s.wires with raises := t.wires.raises }
          link := (s.reply f .done []).link } := by
  intro t was now
  obtain ⟨htaken, -, hraises, hframe⟩ := applyContact_restaled s c
  refine ⟨?_, fun l => ?_, hraises, ?_⟩
  · show (s.applyContact c).monitor.settings = c
    rw [hframe]
  · obtain ⟨hrecord, hfalls, hrises, hstays⟩ := restaled_cases (s.monitor.legs.get l) (s.degraded l)
      (decide (c.maxAge < (s.monitor.legs.get l).age))
    have hleg : t.monitor.legs.get l = _ := htaken l (mem_legs l)
    rw [hleg]
    refine ⟨hrecord, fun hwas hnow => hfalls (decide_eq_false hwas) (decide_eq_true hnow),
      fun hwas hnow => hrises (decide_eq_true hwas) (decide_eq_false hnow), fun hsame => hstays ?_⟩
    exact decide_eq_decide.2 hsame
  · exact hframe.reply f

/-- Settles O55, by the checks of each command. -/
theorem settingsOfRestStates : Obligations.SettingsOfRestStates := by
  intro s f rest
  have hrest := outside_rest_iff s.sup.op
  refine ⟨fun h => ?_, fun h => ?_, fun h => ?_, fun h => ?_, fun h => ?_⟩
  · refine settled (completing_of_busy h _) hrest ?_
    simp only [not_eq_false_iff, Bool.and_eq_true, decide_eq_true_iff, and_assoc]
  · obtain ⟨hstate, hrange, haccept⟩ := settled (c := .setContact) (accepted := s.applyContact (contactArg f.args))
      (completing_of_busy h _) hrest ((not_eq_false_iff _).trans (contactSettings_good_iff (contactArg f.args)))
    exact ⟨hstate, hrange, fun hatRest hfits => ⟨_, haccept hatRest hfits, setContact_accepted s f _⟩⟩
  · refine settled (completing_of_busy h _) hrest ?_
    simp only [not_eq_false_iff, inRangeN_iff, Bool.and_eq_true, decide_eq_true_iff, and_assoc]
  · exact settled (completing_of_busy h _) hrest ((not_eq_false_iff _).trans (walkSettings_good_iff (walkArg f.args)))
  · have hexec : exec .relevel s = _ := completing_of_busy h _
    rw [checked_cons, checked_nil] at hexec
    exact ⟨fun hop => hexec.trans (congrArg _ (if_pos (bne_iff_ne.2 hop))),
      fun hop => hexec.trans (congrArg _ (if_neg (by rw [bne_iff_ne]; exact fun hne => hne hop)))⟩

/-! ## The settings of CONFIG -/

theorem exists_leg {n : Nat} (h : n ≤ 3) : ∃ l : LegId, l.num = n := by
  match n with
  | 0 => exact ⟨.lf, rfl⟩
  | 1 => exact ⟨.rf, rfl⟩
  | 2 => exact ⟨.lh, rfl⟩
  | 3 => exact ⟨.rh, rfl⟩
  | n + 4 => omega

/-- The positions of a leg map are the numbers 1 to 5, each once (R135). -/
theorem legMap_fits (p : Nat → Nat) :
    (!([p 0, p 1, p 2, p 3, p 4].all fun n => inRangeN n 1 5) || !decide [p 0, p 1, p 2, p 3, p 4].Nodup) = false
    ↔ (∀ n, n < 5 → 1 ≤ p n ∧ p n ≤ 5) ∧ ∀ n m, n < 5 → m < 5 → p n = p m → n = m := by
  have hmap : [p 0, p 1, p 2, p 3, p 4] = (List.range 5).map p := rfl
  rw [Bool.or_eq_false_iff, not_eq_false_iff, not_eq_false_iff, decide_eq_true_iff, hmap, List.all_map, List.all_eq_true]
  refine and_congr ?_ ?_
  · exact forall_congr' fun n => imp_congr List.mem_range (inRangeN_iff ..)
  · rw [List.nodup_map_iff_inj_on List.nodup_range]
    constructor
    · intro h n m hn hm heq
      exact h n (List.mem_range.2 hn) m (List.mem_range.2 hm) heq
    · intro h n hn m hm heq
      exact h n m (List.mem_range.1 hn) (List.mem_range.1 hm) heq

/-- Settles O56, by the checks of each command. -/
theorem settingsOfConfig : Obligations.SettingsOfConfig := by
  intro s f
  have hconfig := outside_config_iff s.sup.op
  refine ⟨fun h => ?_, fun h => ?_, fun h => ?_⟩
  · intro lims fits
    have hgood : lims.toList.all JointLimits.good = true ↔ _ := (PerJoint.all_toList_iff lims JointLimits.good).trans
      (forall_congr' fun j => jointLimits_good_iff (lims.get j))
    have hexec : exec .setLimits s = .next (match LegId.ofNum (u8 f.args 0) with
        | some l => s.checked f [(s.sup.op != .config, .state), (!(lims.toList.all JointLimits.good), .range)]
            { s with limits := s.limits.set l (some lims) }
        | none => s.checked f [(s.sup.op != .config, .state), (true, .range)] s) := completing_of_busy h _
    by_cases hleg : u8 f.args 0 ≤ 3
    · obtain ⟨l, hl⟩ := exists_leg hleg
      rw [← hl, ofNum_num] at hexec
      obtain ⟨hstate, hrange, haccept⟩ := settled hexec hconfig ((not_eq_false_iff _).trans hgood)
      refine ⟨hstate, fun hop hbad => hrange hop fun hj => hbad ⟨hleg, hj⟩, fun m hop hfits hm => ?_⟩
      have hsame : m = l := Option.some.inj (by rw [← ofNum_num m, ← ofNum_num l, ← hm, hl])
      rw [hsame]
      exact haccept hop hfits.2
    · rw [ofNum_none (Nat.not_le.1 hleg)] at hexec
      obtain ⟨hstate, hrange, -⟩ := settled (fits := False) hexec hconfig (by decide)
      exact ⟨hstate, fun hop _ => hrange hop not_false, fun m hop hfits _ => absurd hfits.1 hleg⟩
  · exact settled (completing_of_busy h _) hconfig (legMap_fits fun n => u8 f.args n)
  · refine settled (completing_of_busy h _) hconfig ?_
    simp only [not_eq_false_iff, inRangeN_iff, Bool.and_eq_true, and_assoc]

end Sys2Proof.Machine
end

section
/-!
DEFINITION. Banks opened and filled (R5, R6): O53.
-/

namespace Sys2Proof.Machine

-- One proof after another: side by side they take more threads than the memory limit of the check allows.
set_option Elab.async false

theorem State.bank_setBank_same (s : State) {n : Nat} (b : Bank) (h : n < 64) : (s.setBank n b).bank n = b := by
  simp [State.bank, State.setBank, h]

theorem State.bank_setBank_ne (s : State) {n m : Nat} (b : Bank) (h : m ≠ n) : (s.setBank n b).bank m = s.bank m := by
  simp [State.bank, State.setBank, h.symm]

/-- A replaced bank answered DONE: the bank holds what it was given, no other bank changes, and outside the memory only the link
does. -/
theorem reply_setBank (s : State) (f : CmdFrame) {n : Nat} (b : Bank) (h : n < 64) :
    let t := (s.setBank n b).reply f .done []
    t.bank n = b ∧ (∀ m, m ≠ n → t.bank m = s.bank m)
      ∧ t = { s with banks := t.banks, link := (s.reply f .done []).link } :=
  ⟨s.bank_setBank_same b h, fun _ hm => s.bank_setBank_ne b hm, rfl⟩

theorem bankOut_iff (b : Nat) : bankOut b = true ↔ 63 < b ∨ b ≤ 1 := by
  unfold bankOut
  rw [Bool.or_eq_true, decide_eq_true_iff, decide_eq_true_iff]

theorem header_consistent_iff (h : Header) :
    h.consistent = true ↔ h.stanceStiff ≤ 15 ∧ h.swingStiff ≤ 15
      ∧ (h.liftoff = h.touchdown ∨ fwd h.liftoff h.refresh < fwd h.liftoff h.touchdown) := by
  unfold Header.consistent Header.emptyWindow Header.inSwing Header.window
  simp only [Bool.and_eq_true, Bool.or_eq_true, decide_eq_true_iff, beq_iff_eq, fwd_eq_zero, and_assoc]

theorem partGood_iff (part : Nat) (a : List Byte) :
    partGood part a = true ↔
      (part = 0 → ∃ h, headerArg a = some h ∧ h.stanceStiff ≤ 15 ∧ h.swingStiff ≤ 15
          ∧ (h.liftoff = h.touchdown ∨ fwd h.liftoff h.refresh < fwd h.liftoff h.touchdown))
        ∧ (part ≠ 0 → ∀ x ∈ knotsArg a, -4095 ≤ x ∧ x ≤ 4095) := by
  unfold partGood
  by_cases hpart : part = 0
  · rw [if_pos hpart, Option.any_eq_true]
    simp only [header_consistent_iff]
    exact ⟨fun h => ⟨fun _ => h, fun hne => absurd hpart hne⟩, fun h => h.1 hpart⟩
  · rw [if_neg hpart, List.all_eq_true]
    simp only [inRange_iff]
    exact ⟨fun h => ⟨fun heq => absurd heq hpart, fun _ => h⟩, fun h => h.2 hpart⟩

/-! ## A part recorded -/

theorem promote_whole (h : Header) (x y z : List Int) :
    (Bank.filling (some h) ⟨some x, some y, some z⟩).promote = .ready { header := h, knots := ⟨x, y, z⟩ } := rfl

theorem promote_partial {h : Option Header} {x y z : Option (List Int)} (hmissing : h = none ∨ x = none ∨ y = none ∨ z = none) :
    (Bank.filling h ⟨x, y, z⟩).promote = .filling h ⟨x, y, z⟩ := by
  unfold Bank.promote
  split
  case h_1 heq =>
    cases heq
    obtain h | h | h | h := hmissing <;> cases h
  case h_2 => rfl

/-- What a FILLING bank holds once a part has been recorded, before it may become READY. -/
theorem record_filling (h : Option Header) (k : PerJoint (Option (List Int))) {part : Nat} (hpart : part ≤ 3) (a : List Byte) :
    (Bank.filling h k).record part a
      = (Bank.filling (if part = 0 then headerArg a else h)
          ⟨if part = 1 then some (knotsArg a) else k.ab, if part = 2 then some (knotsArg a) else k.hf,
            if part = 3 then some (knotsArg a) else k.kn⟩).promote := by
  match part with
  | 0 => rfl
  | 1 => rfl
  | 2 => rfl
  | 3 => rfl
  | n + 4 => omega

/-- Settles O53. -/
theorem bankIsOpenedAndFilled : Obligations.BankIsOpenedAndFilled := by
  intro s f b part answered
  refine ⟨fun h => ?_, fun h => ?_⟩
  · have hexec : exec .openBank s = .next (s.checked f [(bankOut b, .range), (s.inUse b, .inUse)]
        (s.setBank b (.filling none (.all none)))) := completing_of_busy h _
    rw [checked_cons, checked_cons, checked_nil] at hexec
    refine ⟨fun hout => ?_, fun hlo hhi huse => ?_, fun hlo hhi hfree => ?_⟩
    · rw [hexec, if_pos ((bankOut_iff b).2 hout)]
    · rw [hexec, if_neg (by rw [bankOut_iff]; omega), if_pos huse]
    · refine ⟨_, ?_, reply_setBank s f (.filling none (.all none)) (Nat.lt_succ_of_le hhi)⟩
      rw [hexec, if_neg (by rw [bankOut_iff]; omega), if_neg (Bool.eq_false_iff.1 hfree)]
  · intro header contentGood
    have hexec : exec .writePart s = .next (s.checked f
        [(bankOut b || decide (3 < part), .range), (!(s.bank b).isFilling, .order), (!partGood part f.args, .range)]
        (s.setBank b ((s.bank b).record part f.args))) := completing_of_busy h _
    rw [checked_cons, checked_cons, checked_cons, checked_nil] at hexec
    have hgood : partGood part f.args = true ↔ contentGood := partGood_iff part f.args
    refine ⟨fun hout => ?_, fun hlo hhi hpart => ?_⟩
    · have hbad : (bankOut b || decide (3 < part)) = true := by
        rw [Bool.or_eq_true, bankOut_iff, decide_eq_true_iff, or_assoc]
        exact hout
      rw [hexec, if_pos hbad]
    · have hin : ¬(bankOut b || decide (3 < part)) = true := by
        rw [Bool.or_eq_true, bankOut_iff, decide_eq_true_iff]
        omega
      rw [if_neg hin] at hexec
      refine ⟨fun hother => ?_, fun h k hfilling => ?_⟩
      · have hnot : (!(s.bank b).isFilling) = true := by
          obtain hempty | ⟨p, hready⟩ := hother
          · rw [hempty]; rfl
          · rw [hready]; rfl
        rw [hexec, if_pos hnot]
      · rw [hfilling, if_neg (by exact Bool.false_ne_true), record_filling h k hpart] at hexec
        refine ⟨fun hbad => ?_, fun hok => ?_⟩
        · rw [hexec, if_pos (by rw [Bool.not_eq_true', ← Bool.not_eq_true, hgood]; exact hbad)]
        · rw [if_neg (by rw [Bool.not_eq_true', hgood.2 hok]; exact Bool.true_eq_false.mp)] at hexec
          intro h' ab hf kn
          refine ⟨fun x y z w hx hy hz hw => ⟨_, ?_, reply_setBank s f _ (Nat.lt_succ_of_le hhi)⟩,
            fun hmissing => ⟨_, ?_, reply_setBank s f _ (Nat.lt_succ_of_le hhi)⟩⟩
          · rw [hexec, ← promote_whole, ← hx, ← hy, ← hz, ← hw]
          · exact hexec.trans (congrArg (fun c => Host.Outcome.next ((s.setBank b c).reply f .done [])) (promote_partial hmissing))

end Sys2Proof.Machine
end

section
/-!
DEFINITION. The queries (R11, R13, R181 to R184): O58.
-/

namespace Sys2Proof.Machine

-- One proof after another: side by side they take more threads than the memory limit of the check allows.
set_option Elab.async false

section
variable {s : State} {f : CmdFrame}

/-! ## Banks and gaits (R11, R13) -/

theorem exec_readBank (h : s.busyWith .readBank f) :
    exec .readBank s = .next (if 63 < u8 f.args 0 then s.refuse f .range else s.reply f .done (bankData (s.bank (u8 f.args 0)))) :=
  completing_of_busy h _

theorem exec_readPart (h : s.busyWith .readPart f) :
    exec .readPart s = .next (if 63 < u8 f.args 0 ∨ 3 < u8 f.args 1 then s.refuse f .range
      else match partData (s.bank (u8 f.args 0)) (u8 f.args 1) with
        | some d => s.reply f .done d
        | none => s.refuse f .order) := completing_of_busy h _

theorem exec_readGait (h : s.busyWith .readGait f) :
    exec .readGait s = .next (if 15 < u8 f.args 0 then s.refuse f .range else s.reply f .done (gaitData (s.gait (u8 f.args 0)))) :=
  completing_of_busy h _

theorem exec_readTable (h : s.busyWith .readTable f) :
    exec .readTable s = .next (match s.tableData f.args with
      | some d => s.reply f .done d
      | none => s.refuse f .range) := completing_of_busy h _

theorem exec_readLeg (h : s.busyWith .readLeg f) :
    exec .readLeg s = .next (match LegId.ofNum (u8 f.args 0) with
      | some l => s.reply f .done (s.legData l)
      | none => s.refuse f .range) := completing_of_busy h _

section
variable (h : s.busyWith .readPart f) (hbank : u8 f.args 0 ≤ 63) (hpart : u8 f.args 1 ≤ 3)
include h hbank hpart

theorem readPart_held {d : List Byte} (hheld : partData (s.bank (u8 f.args 0)) (u8 f.args 1) = some d) :
    exec .readPart s = .next (s.reply f .done d) := by
  rw [exec_readPart h, if_neg (by omega), hheld]

theorem readPart_missing (hmissing : partData (s.bank (u8 f.args 0)) (u8 f.args 1) = none) :
    exec .readPart s = .next (s.refuse f .order) := by
  rw [exec_readPart h, if_neg (by omega), hmissing]

end

/-- The part that holds a joint's knots (R3). -/
def jointPart : JointId → Nat
  | .ab => 1
  | .hf => 2
  | .kn => 3

theorem partData_ready (p : Profile) (j : JointId) : partData (.ready p) (jointPart j) = some (knotsData (p.knots.get j)) := by
  cases j <;> rfl

theorem partData_filling (h : Option Header) (k : PerJoint (Option (List Int))) (j : JointId) :
    partData (.filling h k) (jointPart j) = (k.get j).map knotsData := by cases j <;> rfl

/-! ## Tables (R182) -/

theorem readTable_of_data (h : s.busyWith .readTable f) {d : List Byte} (hdata : s.tableData f.args = some d) :
    exec .readTable s = .next (s.reply f .done d) := by
  rw [exec_readTable h, hdata]

theorem tableData_none {a : List Byte} (h : 7 < u8 a 0 ∨ (u8 a 0 = 1 ∧ 3 < u8 a 1) ∨ (u8 a 0 = 4 ∧ 3 < u8 a 1)) :
    s.tableData a = none := by
  unfold State.tableData
  obtain h | ⟨h, hindex⟩ | ⟨h, hindex⟩ := h
  · obtain ⟨n, hn⟩ := Nat.exists_eq_add_of_le' (show 8 ≤ u8 a 0 from h)
    rw [hn]
    rfl
  · rw [h, ofNum_none hindex]
    rfl
  · rw [h]
    exact congrArg (Option.map _) (dif_neg (by omega))

theorem sourceData_eq (c : SourceSettings) :
    sourceData c = [bit c.enabled, BitVec.ofNat 8 c.priority, (match c.action with
        | .hold => 0 | .retract => 1 | .plant => 2 | .stop => 3 | .note => 4 | .crouch => 0 | .none => 0)]
      ++ be16 c.duration ++ be16 c.parameter := by
  unfold sourceData
  rw [field16_eq, field16_eq]
  cases c.action <;> rfl

theorem attitudeData_eq (x : Balance) :
    attitudeData x = [bit (x.refSource == .captured)] ++ be16s x.refPitch ++ be16s x.refRoll
      ++ [BitVec.ofNat 8 x.band.val, bit x.relevel.isSome] ++ be16 x.t1 ++ be16 x.t2 ++ be16 x.t3
      ++ be16 x.tiltWarning ++ be16 x.fallLimit := by
  unfold attitudeData
  rw [bytesS16_eq, bytesS16_eq, field16_eq, field16_eq, field16_eq, field16_eq, field16_eq]
  rfl

theorem reflexData_eq (x : Arbiter) :
    reflexData x = sourceData x.sources.tilt ++ sourceData x.sources.linkLoss ++ sourceData x.sources.earlyContact
      ++ sourceData x.sources.missedStep ++ sourceData x.sources.unload ++ sourceData x.sources.slip
      ++ sourceData x.sources.overtorque ++ sourceData x.sources.baselineStale ++ be16 x.fallCrouch ++ [bit x.nesting] := by
  unfold reflexData
  rw [field16_eq]
  rfl

theorem ringData_eq (x : Ring) :
    ringData x = [x.period, x.lossLimit, x.staleLimit, x.legMap.legs.lf, x.legMap.legs.rf, x.legMap.legs.lh, x.legMap.legs.rh,
        x.legMap.body].map (BitVec.ofNat 8)
      ++ [if x.up = true then 0 else 1, x.tag]
      ++ [x.staleCount.legs.lf, x.staleCount.legs.rf, x.staleCount.legs.lh, x.staleCount.legs.rh, x.staleCount.body, x.lossCount,
        x.restoration].map (BitVec.ofNat 8) := by
  have hup : flag (!x.up) = if x.up = true then 0 else 1 := by cases x.up <;> rfl
  rw [← hup]
  rfl

/-! ## A leg's record (R183) -/

theorem be16_length (n : Nat) : (be16 n).length = 2 := rfl

theorem be16s_length (n : Int) : (be16s n).length = 2 := rfl

theorem legData_eq (s : State) (l : LegId) :
    let sl := s.engine.slots.get l
    let c := s.monitor.legs.get l
    let h := s.shaper.get l
    s.legData l = [(match s.sup.modes.get l with | .active => 0 | .stowed => 1 | .strut => 2 | .faulted => 3),
        bit (s.limits.get l).isSome, BitVec.ofNat 8 sl.bank] ++ be16 sl.offset.toNat ++ [bit sl.mirror]
      ++ be16 sl.phase.toNat ++ [if sl.parked.isSome = true then 2 else if sl.swing = true then 1 else 0]
      ++ be16 (sl.parked.getD Config.unparkedPhase).toNat
      ++ [(match c.contact with | .unknown => 0 | .loaded => 1 | .unloaded => 2),
          bit (decide (s.monitor.settings.maxAge < c.age))] ++ be16 c.baseline ++ be16 c.age
      ++ be16s h.prev.ab ++ be16s h.prev.hf ++ be16s h.prev.kn ++ [bit h.prevValid]
      ++ be16s h.measured.ab ++ be16s h.measured.hf ++ be16s h.measured.kn ++ [bit (s.ring.lastFresh.get l)] := by
  intro sl c h
  have hmotion : byte sl.motion.code = if sl.parked.isSome = true then 2 else if sl.swing = true then 1 else 0 := by
    unfold Slot.motion
    cases sl.parked.isSome <;> cases sl.swing <;> rfl
  have hmode : byte (s.sup.modes.get l).code
      = (match s.sup.modes.get l with | .active => 0 | .stowed => 1 | .strut => 2 | .faulted => 3) := by
    cases s.sup.modes.get l <;> rfl
  have hcontact : byte c.contact.code = (match c.contact with | .unknown => 0 | .loaded => 1 | .unloaded => 2) := by
    cases c.contact <;> rfl
  rw [← hmotion, ← hmode, ← hcontact]
  unfold State.legData slotData
  dsimp only
  rw [bytes16_eq, bytes16_eq, bytes16_eq, field16_eq, field16_eq, bytesS16_eq, bytesS16_eq, bytesS16_eq, bytesS16_eq, bytesS16_eq,
    bytesS16_eq]
  simp only [List.append_assoc]
  rfl

end

/-- Settles O58, query by query. -/
theorem queriesReportTheState : Obligations.QueriesReportTheState := by
  intro s f a b
  refine ⟨fun h => ?_, fun h => ?_, fun h => ?_, fun h => ?_, fun h => ?_, fun h => completing_of_busy h _⟩
  · refine ⟨fun hout => ?_, fun hin => ⟨fun hbank => ?_, fun x k hbank => ?_, fun p hbank => ?_⟩⟩
    · rw [exec_readBank h, if_pos hout]
    · rw [exec_readBank h, if_neg (Nat.not_lt.2 hin), show s.bank (u8 f.args 0) = _ from hbank]
      rfl
    · rw [exec_readBank h, if_neg (Nat.not_lt.2 hin), show s.bank (u8 f.args 0) = _ from hbank]
      rfl
    · rw [exec_readBank h, if_neg (Nat.not_lt.2 hin), show s.bank (u8 f.args 0) = _ from hbank]
      rfl
  · refine ⟨fun hout => ?_, fun hin hpart => ⟨fun hbank => ?_, fun p hbank => ⟨fun hb => ?_, fun j hb => ?_⟩,
      fun x k hbank => ⟨fun hb hx => ?_, fun y hb hx => ?_, fun j hb => ⟨fun hk => ?_, fun y hk => ?_⟩⟩⟩⟩
    · rw [exec_readPart h, if_pos hout]
    · exact readPart_missing h hin hpart (by rw [show s.bank (u8 f.args 0) = _ from hbank]; rfl)
    · exact readPart_held h hin hpart (by rw [show s.bank (u8 f.args 0) = _ from hbank, show u8 f.args 1 = 0 from hb]; rfl)
    · exact readPart_held h hin hpart
        (by rw [show s.bank (u8 f.args 0) = _ from hbank, show u8 f.args 1 = jointPart j from hb, partData_ready])
    · exact readPart_missing h hin hpart
        (by rw [show s.bank (u8 f.args 0) = _ from hbank, show u8 f.args 1 = 0 from hb, hx]; rfl)
    · exact readPart_held h hin hpart
        (by rw [show s.bank (u8 f.args 0) = _ from hbank, show u8 f.args 1 = 0 from hb, hx]; rfl)
    · exact readPart_missing h hin hpart
        (by rw [show s.bank (u8 f.args 0) = _ from hbank, show u8 f.args 1 = jointPart j from hb, partData_filling, hk]; rfl)
    · exact readPart_held h hin hpart
        (by rw [show s.bank (u8 f.args 0) = _ from hbank, show u8 f.args 1 = jointPart j from hb, partData_filling, hk]; rfl)
  · refine ⟨fun hout => ?_, fun hin hgait => ?_, fun g hin hgait => ?_⟩
    · rw [exec_readGait h, if_pos hout]
    · rw [exec_readGait h, if_neg (Nat.not_lt.2 hin), show s.gait (u8 f.args 0) = _ from hgait]
      rfl
    · rw [exec_readGait h, if_neg (Nat.not_lt.2 hin), show s.gait (u8 f.args 0) = _ from hgait]
      cases g <;> rfl
  · refine ⟨fun hout => ?_, fun ha => ?_, fun l ha hb => ?_, fun ha => ?_, fun ha => ?_, fun n ha hb => ?_, fun ha => ?_,
      fun ha => ?_, fun ha => ?_⟩
    · rw [exec_readTable h, tableData_none hout]
    · exact readTable_of_data h (by unfold State.tableData; rw [show u8 f.args 0 = 0 from ha]; rfl)
    · refine readTable_of_data h ?_
      unfold State.tableData
      rw [show u8 f.args 0 = 1 from ha, show u8 f.args 1 = l.num from hb, ofNum_num]
      rfl
    · exact readTable_of_data h (by unfold State.tableData; rw [show u8 f.args 0 = 2 from ha]; rfl)
    · intro x
      rw [← attitudeData_eq]
      exact readTable_of_data h (by unfold State.tableData; rw [show u8 f.args 0 = 3 from ha]; rfl)
    · refine readTable_of_data h ?_
      unfold State.tableData
      rw [show u8 f.args 0 = 4 from ha, show u8 f.args 1 = n.val from hb]
      exact congrArg (Option.map _) (dif_pos n.isLt)
    · intro x source
      refine readTable_of_data h ?_
      unfold State.tableData
      rw [show u8 f.args 0 = 5 from ha]
      show some (reflexData s.arbiter) = _
      rw [reflexData_eq]
      simp only [sourceData_eq]
      rfl
    · intro x m k
      refine readTable_of_data h ?_
      unfold State.tableData
      rw [show u8 f.args 0 = 6 from ha]
      exact congrArg some (ringData_eq s.ring)
    · refine readTable_of_data h ?_
      unfold State.tableData
      rw [show u8 f.args 0 = 7 from ha]
      exact congrArg some (field16_eq _)
  · refine ⟨fun hout => ?_, fun l ha => ?_⟩
    · rw [exec_readLeg h, ofNum_none hout]
    · intro sl c x data
      refine ⟨?_, by simp only [data, List.length_append, List.length_cons, List.length_nil, be16_length, be16s_length]⟩
      rw [exec_readLeg h, show u8 f.args 0 = l.num from ha, ofNum_num]
      exact congrArg (fun d => Host.Outcome.next (s.reply f .done d)) (legData_eq s l)

end Sys2Proof.Machine
end

section
/-!
DEFINITION. Settings read back as they were written (R11, R13, R182, R189): O60.
-/

namespace Sys2Proof.Machine

-- One proof after another: side by side they take more threads than the memory limit of the check allows.
set_option Elab.async false

/-- A list of known length, byte by byte from a place on. -/
theorem bytes_from {a : List Byte} (k n : Nat) (h : a.length = k + n) :
    (List.range n).map (fun i => a.getD (k + i) 0) = a.drop k := by
  refine List.ext_getElem (by rw [List.length_map, List.length_range, List.length_drop]; omega) fun i hi _ => ?_
  rw [List.length_map, List.length_range] at hi
  rw [List.getElem_map, List.getElem_range, List.getElem_drop, List.getD_eq_getElem]

section
variable {a : List Byte}

theorem walk_readBack (h : a.length = 11) : walkData (walkArg a) = a := by
  unfold walkData walkArg
  simp only [field16_u16, byte_u8]
  exact bytes_from 0 11 h

theorem contact_readBack (h : a.length = 18) : contactData (contactArg a) = a := by
  unfold contactData contactArg
  simp only [field16_u16, byte_u8]
  exact bytes_from 0 18 h

theorem limits_readBack (h : a.length = 34) : limitsData (some (limitsArg a)) = 1 :: a.drop 1 := by
  unfold limitsData limitsArg jointLimitsData jointLimitsArg
  simp only [field16_u16, byte_u8, bytesS16_s16]
  exact congrArg (List.cons 1) (bytes_from 1 33 h)

theorem band_readBack (h : a.length = 31) : bandData ⟨gainsArg a 0, gainsArg a 1, gainsArg a 2⟩ = a.drop 1 := by
  unfold bandData gainsData gainsArg
  simp only [field16_u16, bytesS16_s16]
  exact bytes_from 1 30 h

theorem knots_readBack (h : a.length = 66) : knotsData (knotsArg a) = a.drop 2 := by
  unfold knotsData knotsArg
  rw [List.flatMap_map]
  simp only [bytesS16_s16]
  exact bytes_from 2 64 h

/-- The scale mask of a header is the byte that set it. -/
theorem maskCode_maskArg {n : Nat} {m : PerJoint Bool} (h : maskArg n = some m) : maskCode m = n := by
  unfold maskArg at h
  split at h
  case isTrue hn =>
    obtain rfl := Option.some.inj h
    unfold maskCode
    interval_cases n <;> rfl
  case isFalse => cases h

theorem header_readBack (hlen : a.length = 11) {x : Header} (h : headerArg a = some x) : headerData x = a.drop 2 := by
  unfold headerArg at h
  cases hmask : maskArg (u8 a 8) with
  | none => rw [hmask] at h; cases h
  | some m =>
    rw [hmask] at h
    obtain rfl := Option.some.inj h
    unfold headerData
    rw [maskCode_maskArg hmask]
    simp only [bytes16_phaseAt, byte_u8]
    exact bytes_from 2 9 hlen

theorem memberData_memberArg (a : List Byte) (n : Nat) :
    memberData (memberArg a n) = [a.getD (2 + 3 * n) 0, a.getD (3 + 3 * n) 0, a.getD (3 + 3 * n + 1) 0] := by
  unfold memberData memberArg
  rw [byte_u8, bytes16_phaseAt]
  rfl

theorem kindCode_gaitOf {a : List Byte} (h : u8 a 1 ≤ 2) : byte (gaitOf a).kindCode = a.getD 1 0 := by
  rw [← byte_u8]
  refine congrArg byte ?_
  unfold gaitOf
  split
  case isTrue h0 => exact h0.symm
  case isFalse h0 =>
    split
    case isTrue h1 => exact h1.symm
    case isFalse h1 =>
      show 2 = _
      omega

theorem gait_readBack {g : Gait} (hlen : (a.length = 14 ∧ u8 a 1 = 0) ∨ (a.length = 11 ∧ (u8 a 1 = 1 ∨ u8 a 1 = 2)))
    (h : gaitArg a = some g) : gaitData (some g) = 1 :: a.drop 1 := by
  have hkind : u8 a 1 ≤ 2 := by omega
  rw [gaitArg_of_kind hkind] at h
  obtain rfl := Option.some.inj h
  show [1, byte (gaitOf a).kindCode] ++ (gaitOf a).members.flatMap memberData = _
  rw [kindCode_gaitOf hkind]
  unfold gaitOf
  refine congrArg (List.cons 1) ?_
  obtain ⟨hlen, h0⟩ | ⟨hlen, h1 | h2⟩ := hlen
  · rw [if_pos h0]
    simp only [Gait.members, PerLeg.toList, List.flatMap_cons, List.flatMap_nil, memberData_memberArg]
    exact bytes_from 1 13 hlen
  · rw [if_neg (by omega), if_pos h1]
    simp only [Gait.members, List.flatMap_cons, List.flatMap_nil, memberData_memberArg]
    exact bytes_from 1 10 hlen
  · rw [if_neg (by omega), if_neg (by omega)]
    simp only [Gait.members, List.flatMap_cons, List.flatMap_nil, memberData_memberArg]
    exact bytes_from 1 10 hlen

theorem flag_flagArg {i : Nat} {e : Bool} (h : flagArg a i = some e) : flag e = a.getD i 0 := by
  rw [← byte_u8]
  unfold flagArg at h
  split at h
  case h_1 heq => cases h; rw [heq]; rfl
  case h_2 heq => cases h; rw [heq]; rfl
  case h_3 => cases h

theorem code_actionArg {n : Nat} {act : Action} (h : actionArg n = some act) : act.code = n := by
  unfold actionArg at h
  split at h <;> cases h <;> rfl

theorem source_readBack {src : Source} {x : SourceSettings} (hlen : a.length = 8) (h : reflexArg src a = some x) :
    sourceData x = a.drop 1 := by
  unfold reflexArg at h
  cases hflag : flagArg a 1 with
  | none => rw [hflag] at h; cases h
  | some e =>
    cases hact : actionArg (u8 a 3) with
    | none => rw [hflag, hact] at h; cases h
    | some act =>
      rw [hflag, hact] at h
      dsimp only at h
      split at h
      case isTrue =>
        obtain rfl := Option.some.inj h
        unfold sourceData
        rw [code_actionArg hact, flag_flagArg hflag]
        simp only [byte_u8, field16_u16]
        exact bytes_from 1 7 hlen
      case isFalse => cases h

end

/-- Settles O60. -/
theorem settingsReadBackAsWritten : Obligations.SettingsReadBackAsWritten := fun _ =>
  ⟨walk_readBack, contact_readBack, limits_readBack, band_readBack, knots_readBack, fun _ hlen => header_readBack hlen,
    fun _ hlen => gait_readBack hlen, fun _ _ hlen _ => source_readBack hlen⟩

end Sys2Proof.Machine
end

section
/-!
DEFINITION. The answer to every frame the processor takes (R167, R173 to R175): O59.
-/

namespace Sys2Proof.Machine

-- One proof after another: side by side they take more threads than the memory limit of the check allows.
set_option Elab.async false

/-- The inbox, the replies and their reservation are as they were. -/
structure QueuesKept (s t : State) : Prop where
  reserved : t.link.reserved = s.link.reserved
  replies : t.link.replies = s.link.replies
  inbox : t.link.inbox = s.link.inbox

theorem KeepsTables.queuesKept {s t : State} (h : KeepsTables s t) : QueuesKept s t := ⟨h.reserved, h.replies, h.inbox⟩

theorem QueuesKept.of_keepsTables {s t u : State} (h : QueuesKept s t) (k : KeepsTables t u) : QueuesKept s u :=
  ⟨k.reserved.trans h.reserved, k.replies.trans h.replies, k.inbox.trans h.inbox⟩

/-- The replies once the frame in progress has been answered (R167, R173). -/
def answered (s : State) (f : CmdFrame) (code : ReplyCode) (data : List Byte) : List Reply :=
  if s.link.reserved = true then
    s.link.replies ++ [{ command := f.payload.getD 0 0, tag := f.payload.getD 1 0, code := code, data := data }]
  else s.link.replies

/-- The state `t` answers the frame of command `c` once, with this code and data. -/
structure AnsweredOnce (s : State) (f : CmdFrame) (c : Command) (t : State) (code : ReplyCode) (data : List Byte) : Prop where
  idle : t.link.busy = none
  free : t.link.reserved = false
  inbox : t.link.inbox = s.link.inbox
  replies : t.link.replies = answered s f code data
  notFull : code ≠ .full
  deferred : code = .deferred → c = .reset
  noData : c.isQuery = false ∨ code ≠ .done → data = []
  nothingElse : c.isQuery = true ∨ (code ≠ .done ∧ code ≠ .deferred) →
    t = { s with link := { s.link with busy := none, reserved := false, replies := t.link.replies } }

section
variable {s : State} {f : CmdFrame} {c : Command}

theorem answeredOnce_refuse {code : ReplyCode} (hcode : code ≠ .full ∧ code ≠ .deferred) :
    AnsweredOnce s f c (s.refuse f code) code [] where
  idle := rfl
  free := rfl
  inbox := rfl
  replies := rfl
  notFull := hcode.1
  deferred h := absurd h hcode.2
  noData _ := rfl
  nothingElse _ := rfl

/-- A command that is accepted, then answered. -/
theorem answeredOnce_accept (hsetup : c.isQuery = false) {t : State} (h : QueuesKept s t) :
    AnsweredOnce s f c (t.reply f .done []) .done [] where
  idle := rfl
  free := rfl
  inbox := h.inbox
  replies := by
    show (if t.link.reserved = true then _ else _) = _
    rw [h.reserved, h.replies]
    rfl
  notFull := by decide
  deferred h := nomatch h
  noData _ := rfl
  nothingElse h := by
    obtain hquery | ⟨hdone, -⟩ := h
    · cases hsetup.symm.trans hquery
    · exact absurd rfl hdone

theorem answeredOnce_query (hquery : c.isQuery = true) (data : List Byte) : AnsweredOnce s f c (s.reply f .done data) .done data where
  idle := rfl
  free := rfl
  inbox := rfl
  replies := rfl
  notFull := by decide
  deferred h := nomatch h
  noData h := by
    obtain hsetup | hdone := h
    · cases hquery.symm.trans hsetup
    · exact absurd rfl hdone
  nothingElse _ := rfl

/-- A frame answered first, and then acted on by what leaves the queues as they are. -/
theorem answeredOnce_after (hreset : c = .reset) {code : ReplyCode} (hcode : code = .done ∨ code = .deferred) {t : State}
    (h : KeepsTables (s.reply f code []) t) : AnsweredOnce s f c t code [] where
  idle := h.busy
  free := h.reserved
  inbox := h.inbox
  replies := h.replies
  notFull := by
    obtain rfl | rfl := hcode <;> decide
  deferred _ := hreset
  noData _ := rfl
  nothingElse hnot := by
    obtain hquery | ⟨hdone, hdeferred⟩ := hnot
    · rw [hreset] at hquery
      cases hquery
    · exact hcode.elim (fun h => absurd h hdone) (fun h => absurd h hdeferred)

/-- The code of a failing check is one that the checks allow. -/
theorem firstFailing_allowed {checks : List (Bool × ReplyCode)}
    (hcodes : checks.all (fun check => check.2 != .full && check.2 != .deferred) = true) {code : ReplyCode}
    (h : firstFailing checks = some code) : code ≠ .full ∧ code ≠ .deferred := by
  induction checks with
  | nil => cases h
  | cons check rest ih =>
    obtain ⟨bad, first⟩ := check
    rw [List.all_cons, Bool.and_eq_true, Bool.and_eq_true, bne_iff_ne, bne_iff_ne] at hcodes
    cases bad with
    | true =>
      cases h
      exact hcodes.1
    | false => exact ih hcodes.2 h

/-- A checked command is refused by a check, or accepted. -/
theorem answeredOnce_checked (hsetup : c.isQuery = false) {checks : List (Bool × ReplyCode)}
    (hcodes : checks.all (fun check => check.2 != .full && check.2 != .deferred) = true) {t : State} (h : QueuesKept s t) :
    ∃ code data, AnsweredOnce s f c (s.checked f checks t) code data := by
  obtain ⟨code, hfails, heq⟩ | ⟨-, heq⟩ := checked_cases s f checks t
  · rw [heq]
    exact ⟨code, [], answeredOnce_refuse (firstFailing_allowed hcodes hfails)⟩
  · rw [heq]
    exact ⟨.done, [], answeredOnce_accept hsetup h⟩

/-- The completion of a frame answers it, once its body does. -/
theorem answers_of_body (h : s.busyWith c f) {body : CmdFrame → State} (hexec : exec c.instr s = s.completing c body)
    (hbody : ∃ code data, AnsweredOnce s f c (body f) code data) :
    ∃ t code data, exec c.instr s = .next t ∧ AnsweredOnce s f c t code data := by
  obtain ⟨code, data, hanswered⟩ := hbody
  exact ⟨body f, code, data, hexec.trans (completing_of_busy h _), hanswered⟩

theorem answered_range : ∃ code data, AnsweredOnce s f c (s.refuse f .range) code data :=
  ⟨.range, [], answeredOnce_refuse (by decide)⟩

theorem QueuesKept.refl (s : State) : QueuesKept s s := ⟨rfl, rfl, rfl⟩

theorem queuesKept_applyContact (s : State) (x : ContactSettings) : QueuesKept s (s.applyContact x) := by
  have hlink : (s.applyContact x).link = s.link := by
    have hframe : RecordsRaised _ _ := (applyContact_restaled s x).frame
    rw [hframe]
  exact ⟨by rw [hlink], by rw [hlink], by rw [hlink]⟩

theorem queuesKept_reexamine {s q : State} (h : QueuesKept s q) : QueuesKept s q.reexamine := h.of_keepsTables (keeps_reexamine q)

theorem queuesKept_release (s : State) : QueuesKept s (s.mapContacts fun _ c => c.forget).startStanding.multiFaultTest :=
  QueuesKept.of_keepsTables (t := s.mapContacts fun _ c => c.forget) ⟨rfl, rfl, rfl⟩
    ((keeps_startStanding _).trans (keeps_multiFaultTest _))

/-! ## The commands that do not only check -/

theorem answers_setLimits (h : s.busyWith .setLimits f) :
    ∃ t code data, exec .setLimits s = .next t ∧ AnsweredOnce s f .setLimits t code data := by
  refine answers_of_body h rfl ?_
  cases LegId.ofNum (u8 f.args 0) with
  | some l => exact answeredOnce_checked rfl (by rfl) (by exact ⟨rfl, rfl, rfl⟩)
  | none => exact answeredOnce_checked rfl (by rfl) (by exact .refl s)

theorem answers_setGains (h : s.busyWith .setGains f) :
    ∃ t code data, exec .setGains s = .next t ∧ AnsweredOnce s f .setGains t code data := by
  refine answers_of_body h rfl ?_
  cases bandNumber (u8 f.args 0) with
  | some n => exact answeredOnce_checked rfl (by rfl) (by exact ⟨rfl, rfl, rfl⟩)
  | none => exact answered_range

theorem answers_setReflex (h : s.busyWith .setReflex f) :
    ∃ t code data, exec .setReflex s = .next t ∧ AnsweredOnce s f .setReflex t code data := by
  refine answers_of_body h rfl ?_
  dsimp only
  split
  · exact answeredOnce_checked rfl (by rfl) (by exact queuesKept_reexamine ⟨rfl, rfl, rfl⟩)
  · cases sourceArg (u8 f.args 0) with
    | none => exact answered_range
    | some src =>
      dsimp only
      cases reflexArg src f.args with
      | none => exact answered_range
      | some x => exact answeredOnce_checked rfl (by rfl) (by exact queuesKept_reexamine ⟨rfl, rfl, rfl⟩)

theorem answers_setArbiter (h : s.busyWith .setArbiter f) :
    ∃ t code data, exec .setArbiter s = .next t ∧ AnsweredOnce s f .setArbiter t code data := by
  refine answers_of_body h rfl ?_
  cases flagArg f.args 0 with
  | some n => exact answeredOnce_checked rfl (by rfl) (by exact queuesKept_reexamine ⟨rfl, rfl, rfl⟩)
  | none => exact answered_range

theorem answers_setLegMode (h : s.busyWith .setLegMode f) :
    ∃ t code data, exec .setLegMode s = .next t ∧ AnsweredOnce s f .setLegMode t code data := by
  refine answers_of_body h rfl ?_
  cases LegId.ofNum (u8 f.args 0) with
  | none => exact answeredOnce_checked rfl (by rfl) (by exact .refl s)
  | some l =>
    cases modeArg (u8 f.args 1) with
    | none => exact answeredOnce_checked rfl (by rfl) (by exact .refl s)
    | some m => exact answeredOnce_checked rfl (by rfl) (by exact (keeps_changeMode s l m _).queuesKept)

theorem answers_reset (h : s.busyWith .reset f) :
    ∃ t code data, exec .reset s = .next t ∧ AnsweredOnce s f .reset t code data := by
  refine answers_of_body h rfl ?_
  cases s.sup.op with
  | config => exact ⟨.done, [], answeredOnce_after rfl (.inl rfl) (keeps_applyReset _)⟩
  | standing => exact ⟨.done, [], answeredOnce_after rfl (.inl rfl) (keeps_applyReset _)⟩
  | safe => exact ⟨.done, [], answeredOnce_after rfl (.inl rfl) (keeps_applyReset _)⟩
  | walking =>
    exact ⟨.deferred, [], answeredOnce_after rfl (.inr rfl)
      (KeepsTables.trans (by constructor <;> rfl) (keeps_enterStopping _))⟩
  | stopping =>
    refine ⟨.deferred, [], answeredOnce_after rfl (.inr rfl) ?_⟩
    dsimp only
    split
    · exact .refl _
    · constructor <;> rfl

theorem answers_readPart (h : s.busyWith .readPart f) :
    ∃ t code data, exec .readPart s = .next t ∧ AnsweredOnce s f .readPart t code data := by
  refine answers_of_body h rfl ?_
  dsimp only
  split
  · exact answered_range
  · cases partData (s.bank (u8 f.args 0)) (u8 f.args 1) with
    | some d => exact ⟨.done, d, answeredOnce_query rfl d⟩
    | none => exact ⟨.order, [], answeredOnce_refuse (by decide)⟩

theorem answers_readTable (h : s.busyWith .readTable f) :
    ∃ t code data, exec .readTable s = .next t ∧ AnsweredOnce s f .readTable t code data := by
  refine answers_of_body h rfl ?_
  cases s.tableData f.args with
  | some d => exact ⟨.done, d, answeredOnce_query rfl d⟩
  | none => exact answered_range

theorem answers_readLeg (h : s.busyWith .readLeg f) :
    ∃ t code data, exec .readLeg s = .next t ∧ AnsweredOnce s f .readLeg t code data := by
  refine answers_of_body h rfl ?_
  cases LegId.ofNum (u8 f.args 0) with
  | some l => exact ⟨.done, _, answeredOnce_query rfl _⟩
  | none => exact answered_range

theorem answered_or_range (hquery : c.isQuery = true) (out : Prop) [Decidable out] (d : List Byte) :
    ∃ code data, AnsweredOnce s f c (if out then s.refuse f .range else s.reply f .done d) code data := by
  split
  · exact answered_range
  · exact ⟨.done, d, answeredOnce_query hquery d⟩

/-- Every command answers its frame once. -/
theorem answers_every (h : s.busyWith c f) : ∃ t code data, exec c.instr s = .next t ∧ AnsweredOnce s f c t code data := by
  cases c with
  | openBank => exact answers_of_body h rfl (answeredOnce_checked rfl (by rfl) (by exact ⟨rfl, rfl, rfl⟩))
  | writePart => exact answers_of_body h rfl (answeredOnce_checked rfl (by rfl) (by exact ⟨rfl, rfl, rfl⟩))
  | defineGait => exact answers_of_body h rfl (answeredOnce_checked rfl (by rfl) (by exact ⟨rfl, rfl, rfl⟩))
  | undefineGait => exact answers_of_body h rfl (answeredOnce_checked rfl (by rfl) (by exact ⟨rfl, rfl, rfl⟩))
  | setLimits => exact answers_setLimits h
  | setGains => exact answers_setGains h
  | setBands => exact answers_of_body h rfl (answeredOnce_checked rfl (by rfl) (by exact ⟨rfl, rfl, rfl⟩))
  | setContact => exact answers_of_body h rfl (answeredOnce_checked rfl (by rfl) (by exact queuesKept_applyContact s _))
  | setReflex => exact answers_setReflex h
  | setArbiter => exact answers_setArbiter h
  | setTilt => exact answers_of_body h rfl (answeredOnce_checked rfl (by rfl) (by exact ⟨rfl, rfl, rfl⟩))
  | setLegMode => exact answers_setLegMode h
  | setLegMap => exact answers_of_body h rfl (answeredOnce_checked rfl (by rfl) (by exact ⟨rfl, rfl, rfl⟩))
  | setRing => exact answers_of_body h rfl (answeredOnce_checked rfl (by rfl) (by exact ⟨rfl, rfl, rfl⟩))
  | setWalk => exact answers_of_body h rfl (answeredOnce_checked rfl (by rfl) (by exact ⟨rfl, rfl, rfl⟩))
  | setStatus => exact answers_of_body h rfl (answeredOnce_checked rfl (by rfl) (by exact ⟨rfl, rfl, rfl⟩))
  | release =>
    exact answers_of_body h rfl (answeredOnce_checked rfl (by rfl) (by exact queuesKept_release s))
  | relevel => exact answers_of_body h rfl (answeredOnce_checked rfl (by rfl) (by exact ⟨rfl, rfl, rfl⟩))
  | resume => exact answers_of_body h rfl (answeredOnce_checked rfl (by rfl) (by exact (keeps_startStanding s).queuesKept))
  | reset => exact answers_reset h
  | clearPending => exact answers_of_body h rfl (answeredOnce_checked rfl (by rfl) (by exact ⟨rfl, rfl, rfl⟩))
  | readBank => exact answers_of_body h rfl (answered_or_range rfl _ _)
  | readPart => exact answers_readPart h
  | readGait => exact answers_of_body h rfl (answered_or_range rfl _ _)
  | readTable => exact answers_readTable h
  | readLeg => exact answers_readLeg h
  | identify => exact answers_of_body h rfl ⟨.done, _, answeredOnce_query rfl _⟩

end

/-- Settles O59. -/
theorem everyFrameIsAnsweredOnce : Obligations.EveryFrameIsAnsweredOnce := by
  refine fun s f hbusy => ⟨fun hnone => ?_, fun c hc => ?_⟩
  · show execNotWellFormed s = _
    unfold execNotWellFormed
    rw [hbusy]
    exact if_pos hnone
  · obtain ⟨t, code, data, hexec, hidle, hfree, hinbox, hreplies, hfull, hdeferred, hdata, hnothing⟩ := answers_every ⟨hbusy, hc⟩
    exact ⟨t, code, data, hexec, hidle, hfree, hinbox, hreplies, hfull, hdeferred, hdata, hnothing⟩

end Sys2Proof.Machine
end
